-- ==== Sys2Proof/Word.lean ====
section
/-! DEFINITION. The widths in which values cross the console line (R193, field codings of spec/10). -/

namespace Sys2Proof

/-- One byte of the console line. -/
abbrev Byte := BitVec 8

/-- A two-byte field. -/
abbrev Half := BitVec 16

/-- A four-byte field. -/
abbrev Quad := BitVec 32

end Sys2Proof
end

