-- ==== Sys2Proof/Config.lean ====
section
/-! DEFINITION. The free values: what the manual leaves open, with no body, so that no proof can see them. -/

namespace Sys2Proof

/-- The two bytes sent for a number that does not fit its two-byte field.
The manual gives every such field two bytes (field codings of spec/10) and lets some of the values grow past them: SV and the
gust counter of R113, the wind speed of R114, a path length of R12 above 32767.
FREE VALUE, log entry 4. -/
opaque Config.wideHalf : Int → Half

/-- The two bytes AXIS_READ sends for the tilt class speed THREE_EIGHTHS, which R52 gives as 112.5 cdeg/s.
FREE VALUE, log entry 5. -/
opaque Config.fractionalSpeed : Half

end Sys2Proof
end

