-- ==== Sys2Proof/Syntax.lean ====
section
/-! DEFINITION. The commands: one constructor for each row of spec/opcode_table.json, in the table's order. -/

namespace Sys2Proof

/-- The three axes of the dish positioner, in the order in which the manual lists them (R51). -/
inductive Axis where
  | pan | tilt | pol
  deriving DecidableEq, Repr

/-- The discrete lines of R110, in its order. -/
inductive Line where
  | estop | brake | drive | pressure | aux | nest | panStow | tiltStow | wrap
  | panIndex | tiltIndex | polIndex
  deriving DecidableEq, Repr

/-- The converter channels of R103. -/
inductive Channel where
  | level | pitch | roll | supply
  deriving DecidableEq, Repr

/-- The ten trip sources of R121, in its order. -/
inductive Source where
  | estop | drive | axisStall | mastStall | slip | wind | tilt | supply | pressure | aux
  deriving DecidableEq, Repr

/-- A whole frame of the console line, less its lead, length and CRC bytes (R193). -/
structure Frame where
  kind : Byte
  tag : Byte
  payload : List Byte
  deriving DecidableEq, Repr

/-- The commands of the block, one for each row of the table.

A request carries its tag and its fields at the widths of the line (field codings of spec/10), so that every value that the
console can send is an operand, the refused ones too. An event carries what the plant or the line shows at it. -/
inductive Instr where
  /-- POWER_ON (R213) -/
  | powerOn
  /-- RESET_LINE (R213) -/
  | resetLine
  /-- BYTE_RECEIVED (R194) -/
  | byteReceived (b : Byte)
  /-- RECEIVE_GAP (R194) -/
  | receiveGap
  /-- LINE_FAULT (R194) -/
  | lineFault
  /-- UNKNOWN_KIND_FRAME (R196): a whole frame of a kind that is no request's -/
  | unknownKindFrame (kind tag : Byte) (payload : List Byte)
  /-- FRAME_SENT (R198) -/
  | frameSent
  /-- IDENT (R199) -/
  | ident (tag : Byte)
  /-- RESTART (R200) -/
  | restart (tag : Byte)
  /-- SAVE (R214) -/
  | save (tag : Byte)
  /-- SAVE_COMPLETE (R215) -/
  | saveComplete
  /-- SITE_STORE (R4) -/
  | siteStore (tag number : Byte) (lat lon alt : Quad) (pol beaconFloor beaconCeiling : Half) (name : List Byte)
  /-- SITE_ERASE (R5) -/
  | siteErase (tag number : Byte)
  /-- SITE_READ (R6) -/
  | siteRead (tag number : Byte)
  /-- FIX (R9) -/
  | fix (tag : Byte) (lat lon alt : Quad) (headingFlag : Byte) (heading : Half)
  /-- SOLVE (R26) -/
  | solve (tag site extFlag : Byte) (ext : Half)
  /-- AIM (R27) -/
  | aim (tag site : Byte)
  /-- SOLUTION_READ (R29) -/
  | solutionRead (tag : Byte)
  /-- MAP_WRITE (R42) -/
  | mapWrite (tag layer first count attr : Byte) (height : Half)
  /-- MAP_READ (R44) -/
  | mapRead (tag layer first count : Byte)
  /-- CEILING_SET (R45) -/
  | ceilingSet (tag : Byte) (height : Half)
  /-- STOW_AZIMUTH (R46) -/
  | stowAzimuth (tag : Byte) (z : Half)
  /-- BODY_LOCK (R47) -/
  | bodyLock (tag : Byte)
  /-- VIOLATION_READ (R48) -/
  | violationRead (tag : Byte)
  /-- VIOLATION_ACK (R49) -/
  | violationAck (tag : Byte)
  /-- AXIS_TARGET (R61) -/
  | axisTarget (tag axis : Byte) (position : Half)
  /-- AXIS_MOMENT (R62) -/
  | axisMoment (tag axis moment : Byte)
  /-- SYNC (R63) -/
  | sync (tag : Byte)
  /-- AXIS_STOP (R77) -/
  | axisStop (tag axis : Byte)
  /-- JOG (R72) -/
  | jog (tag axis direction speed : Byte)
  /-- JOG_DEADMAN_EXPIRY (R73) -/
  | jogDeadmanExpiry (axis : Axis)
  /-- HOME (R67) -/
  | home (tag axis : Byte)
  /-- STOW (R71) -/
  | stow (tag : Byte)
  /-- AXIS_READ (R78) -/
  | axisRead (tag axis : Byte)
  /-- SLEW_SET (R79) -/
  | slewSet (tag axis slewClass : Byte)
  /-- INDEX_SET (R66) -/
  | indexSet (tag axis : Byte) (position : Half)
  /-- AXIS_ENCODER_MOVE (R57): the encoder of an axis counts `delta` cdeg, one count after the other -/
  | axisEncoderMove (axis : Axis) (delta : Half)
  /-- AXIS_SETTLE_DONE (R57) -/
  | axisSettleDone (axis : Axis)
  /-- AXIS_STALL_TIMEOUT (R64) -/
  | axisStallTimeout (axis : Axis)
  /-- MAST_TO (R97) -/
  | mastTo (tag : Byte) (height : Half)
  /-- MAST_LOWER (R98) -/
  | mastLower (tag : Byte)
  /-- MAST_STOP (R99) -/
  | mastStop (tag : Byte)
  /-- MAST_READ (R100) -/
  | mastRead (tag : Byte)
  /-- MAST_PARAM (R101) -/
  | mastParam (tag name : Byte) (value : Half)
  /-- MAST_ENCODER_COUNT (R81): one count of the mast encoder, up as the mast extends -/
  | mastEncoderCount (up : Bool)
  /-- MAST_SETTLE_DONE (R91) -/
  | mastSettleDone
  /-- MAST_STALL_TIMEOUT (R94) -/
  | mastStallTimeout
  /-- CONVERSION (R103) -/
  | conversion (channel : Channel) (count : BitVec 12)
  /-- LINE_RAW_CHANGE (R110): the line's raw level is now `level` (asserted or closed when true) -/
  | lineRawChange (line : Line) (level : Bool)
  /-- DEBOUNCE_EXPIRY (R110) -/
  | debounceExpiry (line : Line)
  /-- ANEMOMETER_PULSE (R113): a rising edge, `sinceUs` microseconds after the last counted pulse -/
  | anemometerPulse (sinceUs : Nat)
  /-- GATE_END (R114) -/
  | gateEnd
  /-- SENSE_READ (R116) -/
  | senseRead (tag : Byte)
  /-- CAL_SET (R117) -/
  | calSet (tag item : Byte) (value : Half)
  /-- LIMIT_SET (R118) -/
  | limitSet (tag : Byte) (tiltLimit supplyLow : Half)
  /-- WIND_SET (R119) -/
  | windSet (tag : Byte) (gateLength windRun windLimit : Half)
  /-- RELEASE_TIMER_EXPIRY (R127) -/
  | releaseTimerExpiry (source : Source)
  /-- TRIP_CONFIG (R136) -/
  | tripConfig (tag source enable mode : Byte) (delay : Half) (raising lowering rest positioner transmit : Byte)
  /-- TRIP_READ (R137) -/
  | tripRead (tag : Byte)
  /-- TRIP_CLEAR (R138) -/
  | tripClear (tag : Byte) (sources : Half)
  /-- SEARCH (R143) -/
  | search (tag kind origin site : Byte)
  /-- SEARCH_DWELL_DONE (R147) -/
  | searchDwellDone
  /-- SEARCH_ABORT (R161) -/
  | searchAbort (tag : Byte)
  /-- SEARCH_READ (R162) -/
  | searchRead (tag : Byte)
  /-- SEARCH_PARAM (R163) -/
  | searchParam (tag profile : Byte) (initialStep minStep margin dwell : Half) (samples budget : Byte) (radius : Half)
  /-- TRACK (R164) -/
  | track (tag choice : Byte) (interval : Half)
  /-- TRACK_EXPIRY (R159) -/
  | trackExpiry
  /-- REPORT_EXPIRY (R208) -/
  | reportExpiry
  /-- TX_REQUEST (R173) -/
  | txRequest (tag choice : Byte)
  /-- TX_READ (R174) -/
  | txRead (tag : Byte)
  /-- DEPLOY (R179) -/
  | deploy (tag site : Byte) (height options interval : Half)
  /-- DEPLOY_RAISE_ISSUE (R182) -/
  | deployRaiseIssue
  /-- DEPLOY_SEARCH_ISSUE (R184) -/
  | deploySearchIssue
  /-- TX_WAIT_TIMEOUT (R185) -/
  | txWaitTimeout
  /-- STOW_ALL (R188) -/
  | stowAll (tag : Byte)
  /-- HALT (R190) -/
  | halt (tag : Byte)
  /-- SEQ_READ (R191) -/
  | seqRead (tag : Byte)
  /-- NOTICE_MASK (R205) -/
  | noticeMask (tag : Byte) (kinds : Half)
  /-- HUSH (R206) -/
  | hush (tag : Byte)
  /-- UNHUSH (R206) -/
  | unhush (tag : Byte)
  /-- PENDING_CLEAR (R207) -/
  | pendingClear (tag : Byte) (kinds : Half)
  /-- TIMER_SET (R209) -/
  | timerSet (tag timer mode : Byte) (interval : Half)
  /-- TIMER_READ (R210) -/
  | timerRead (tag timer : Byte)
  deriving DecidableEq, Repr

end Sys2Proof
end

