-- ==== Sys2Proof/WellFormed.lean ====
section
/-! DEFINITION. Which commands the console or the plant can really give. A command that is not well formed still has a meaning; it
only cannot arrive. -/

namespace Sys2Proof

/-- The kind codes of the requests (spec/10, kind codes). -/
def requestKinds : List Byte :=
  [0x01, 0x02, 0x03, 0x08, 0x09, 0x0A, 0x10, 0x11, 0x12, 0x13,
   0x18, 0x19, 0x1A, 0x1B, 0x1C, 0x1D, 0x1E,
   0x20, 0x21, 0x22, 0x23, 0x24, 0x25, 0x26, 0x27, 0x28, 0x29,
   0x30, 0x31, 0x32, 0x33, 0x34, 0x38, 0x39, 0x3A, 0x3B,
   0x40, 0x41, 0x42, 0x44, 0x45, 0x46, 0x47, 0x48, 0x4C, 0x4D,
   0x50, 0x51, 0x52, 0x53, 0x58, 0x59, 0x5A, 0x5B, 0x5C, 0x5D]

/-- A payload holds at most 120 bytes (R193), so the name of a SITE_STORE at most 100 characters, and the frame of an
UNKNOWN_KIND_FRAME has a kind that is no request's (R196). -/
def Instr.wellFormed : Instr → Bool
  | .siteStore _ _ _ _ _ _ _ _ name => name.length ≤ 100
  | .unknownKindFrame kind _ payload => payload.length ≤ 120 && !requestKinds.contains kind
  | _ => true

end Sys2Proof
end

