-- ==== Sys2Proof/Decode.lean ====
section
/-! DEFINITION. The command that a word of the table spells (none: no row of the table has bits), and the request that a whole
frame of the console line spells, with the frame of a request beside it. Both follow the field codings and the kind codes of
spec/10: the payload of a request is the sum of its fields, each most significant byte first, in the order in which its entry
names them (R193, R196). -/

namespace Sys2Proof

/-- No row of spec/opcode_table.json gives a command any bits, so no word spells one. -/
def decodeTableWord (_nbits _w : Nat) : Option Instr := none

/-! ## Fields -/

/-- A two-byte field, most significant byte first (R193). -/
def halfBytes (h : Half) : List Byte := [h.extractLsb' 8 8, h.extractLsb' 0 8]

/-- A four-byte field, most significant byte first (R193). -/
def quadBytes (q : Quad) : List Byte :=
  [q.extractLsb' 24 8, q.extractLsb' 16 8, q.extractLsb' 8 8, q.extractLsb' 0 8]

/-- The two-byte field of two bytes. -/
def halfOf (a b : Byte) : Half := a ++ b

/-- The four-byte field of four bytes. -/
def quadOf (a b c d : Byte) : Quad := a ++ b ++ c ++ d

/-! ## From a request to its frame -/

/-- The frame of a request; an event has none. -/
def encodeFrame : Instr → Option Frame
  | .ident tag => some ⟨0x01, tag, []⟩
  | .restart tag => some ⟨0x02, tag, []⟩
  | .save tag => some ⟨0x03, tag, []⟩
  | .siteStore tag number lat lon alt pol fl ce name =>
    some ⟨0x08, tag, number :: quadBytes lat ++ quadBytes lon ++ quadBytes alt ++ halfBytes pol ++ halfBytes fl
      ++ halfBytes ce ++ (BitVec.ofNat 8 name.length :: name)⟩
  | .siteErase tag number => some ⟨0x09, tag, [number]⟩
  | .siteRead tag number => some ⟨0x0A, tag, [number]⟩
  | .fix tag lat lon alt flag heading =>
    some ⟨0x10, tag, quadBytes lat ++ quadBytes lon ++ quadBytes alt ++ [flag] ++ halfBytes heading⟩
  | .solve tag site flag ext => some ⟨0x11, tag, [site, flag] ++ halfBytes ext⟩
  | .aim tag site => some ⟨0x12, tag, [site]⟩
  | .solutionRead tag => some ⟨0x13, tag, []⟩
  | .mapWrite tag layer first count attr height => some ⟨0x18, tag, [layer, first, count, attr] ++ halfBytes height⟩
  | .mapRead tag layer first count => some ⟨0x19, tag, [layer, first, count]⟩
  | .ceilingSet tag height => some ⟨0x1A, tag, halfBytes height⟩
  | .stowAzimuth tag z => some ⟨0x1B, tag, halfBytes z⟩
  | .bodyLock tag => some ⟨0x1C, tag, []⟩
  | .violationRead tag => some ⟨0x1D, tag, []⟩
  | .violationAck tag => some ⟨0x1E, tag, []⟩
  | .axisTarget tag axis position => some ⟨0x20, tag, axis :: halfBytes position⟩
  | .axisMoment tag axis moment => some ⟨0x21, tag, [axis, moment]⟩
  | .sync tag => some ⟨0x22, tag, []⟩
  | .axisStop tag axis => some ⟨0x23, tag, [axis]⟩
  | .jog tag axis direction speed => some ⟨0x24, tag, [axis, direction, speed]⟩
  | .home tag axis => some ⟨0x25, tag, [axis]⟩
  | .stow tag => some ⟨0x26, tag, []⟩
  | .axisRead tag axis => some ⟨0x27, tag, [axis]⟩
  | .slewSet tag axis slewClass => some ⟨0x28, tag, [axis, slewClass]⟩
  | .indexSet tag axis position => some ⟨0x29, tag, axis :: halfBytes position⟩
  | .mastTo tag height => some ⟨0x30, tag, halfBytes height⟩
  | .mastLower tag => some ⟨0x31, tag, []⟩
  | .mastStop tag => some ⟨0x32, tag, []⟩
  | .mastRead tag => some ⟨0x33, tag, []⟩
  | .mastParam tag name value => some ⟨0x34, tag, name :: halfBytes value⟩
  | .senseRead tag => some ⟨0x38, tag, []⟩
  | .calSet tag item value => some ⟨0x39, tag, item :: halfBytes value⟩
  | .limitSet tag tiltLimit supplyLow => some ⟨0x3A, tag, halfBytes tiltLimit ++ halfBytes supplyLow⟩
  | .windSet tag gateLength windRun windLimit =>
    some ⟨0x3B, tag, halfBytes gateLength ++ halfBytes windRun ++ halfBytes windLimit⟩
  | .tripConfig tag source enable mode delay raising lowering rest positioner transmit =>
    some ⟨0x40, tag, [source, enable, mode] ++ halfBytes delay ++ [raising, lowering, rest, positioner, transmit]⟩
  | .tripRead tag => some ⟨0x41, tag, []⟩
  | .tripClear tag sources => some ⟨0x42, tag, halfBytes sources⟩
  | .search tag kind origin site => some ⟨0x44, tag, [kind, origin, site]⟩
  | .searchAbort tag => some ⟨0x45, tag, []⟩
  | .searchRead tag => some ⟨0x46, tag, []⟩
  | .searchParam tag profile initialStep minStep margin dwell samples budget radius =>
    some ⟨0x47, tag, profile :: halfBytes initialStep ++ halfBytes minStep ++ halfBytes margin ++ halfBytes dwell
      ++ [samples, budget] ++ halfBytes radius⟩
  | .track tag choice interval => some ⟨0x48, tag, choice :: halfBytes interval⟩
  | .txRequest tag choice => some ⟨0x4C, tag, [choice]⟩
  | .txRead tag => some ⟨0x4D, tag, []⟩
  | .deploy tag site height options interval =>
    some ⟨0x50, tag, site :: halfBytes height ++ halfBytes options ++ halfBytes interval⟩
  | .stowAll tag => some ⟨0x51, tag, []⟩
  | .halt tag => some ⟨0x52, tag, []⟩
  | .seqRead tag => some ⟨0x53, tag, []⟩
  | .noticeMask tag kinds => some ⟨0x58, tag, halfBytes kinds⟩
  | .hush tag => some ⟨0x59, tag, []⟩
  | .unhush tag => some ⟨0x5A, tag, []⟩
  | .pendingClear tag kinds => some ⟨0x5B, tag, halfBytes kinds⟩
  | .timerSet tag timer mode interval => some ⟨0x5C, tag, [timer, mode] ++ halfBytes interval⟩
  | .timerRead tag timer => some ⟨0x5D, tag, [timer]⟩
  | .unknownKindFrame kind tag payload => some ⟨kind, tag, payload⟩
  | _ => none

/-! ## From a frame to its request -/

/-- The SITE_STORE of a payload: 20 bytes and the name, whose length is the payload's own byte 19 (spec/10, site record). -/
def decodeSiteStore (tag : Byte) : List Byte → Option Instr
  | n :: a0 :: a1 :: a2 :: a3 :: o0 :: o1 :: o2 :: o3 :: h0 :: h1 :: h2 :: h3 :: q0 :: q1 :: f0 :: f1 :: c0 :: c1 :: len :: name =>
    if name.length = len.toNat then
      some (.siteStore tag n (quadOf a0 a1 a2 a3) (quadOf o0 o1 o2 o3) (quadOf h0 h1 h2 h3) (halfOf q0 q1) (halfOf f0 f1)
        (halfOf c0 c1) name)
    else none
  | _ => none

/-- A payload of no fields. -/
def fields0 (i : Instr) : List Byte → Option Instr
  | [] => some i
  | _ => none

/-- A payload of one byte. -/
def fields1 (f : Byte → Instr) : List Byte → Option Instr
  | [b0] => some (f b0)
  | _ => none

/-- A payload of 2 bytes. -/
def fields2 (f : Byte → Byte → Instr) : List Byte → Option Instr
  | [b0, b1] => some (f b0 b1)
  | _ => none

/-- A payload of 3 bytes. -/
def fields3 (f : Byte → Byte → Byte → Instr) : List Byte → Option Instr
  | [b0, b1, b2] => some (f b0 b1 b2)
  | _ => none

/-- A payload of 4 bytes. -/
def fields4 (f : Byte → Byte → Byte → Byte → Instr) : List Byte → Option Instr
  | [b0, b1, b2, b3] => some (f b0 b1 b2 b3)
  | _ => none

/-- A payload of 6 bytes. -/
def fields6 (f : Byte → Byte → Byte → Byte → Byte → Byte → Instr) : List Byte → Option Instr
  | [b0, b1, b2, b3, b4, b5] => some (f b0 b1 b2 b3 b4 b5)
  | _ => none

/-- A payload of 7 bytes. -/
def fields7 (f : Byte → Byte → Byte → Byte → Byte → Byte → Byte → Instr) : List Byte → Option Instr
  | [b0, b1, b2, b3, b4, b5, b6] => some (f b0 b1 b2 b3 b4 b5 b6)
  | _ => none

/-- A payload of 10 bytes. -/
def fields10 (f : Byte → Byte → Byte → Byte → Byte → Byte → Byte → Byte → Byte → Byte → Instr) : List Byte → Option Instr
  | [b0, b1, b2, b3, b4, b5, b6, b7, b8, b9] => some (f b0 b1 b2 b3 b4 b5 b6 b7 b8 b9)
  | _ => none

/-- A payload of 13 bytes. -/
def fields13 (f : Byte → Byte → Byte → Byte → Byte → Byte → Byte → Byte → Byte → Byte → Byte → Byte → Byte → Instr) : List Byte → Option Instr
  | [b0, b1, b2, b3, b4, b5, b6, b7, b8, b9, b10, b11, b12] => some (f b0 b1 b2 b3 b4 b5 b6 b7 b8 b9 b10 b11 b12)
  | _ => none

/-- A payload of 15 bytes. -/
def fields15 (f : Byte → Byte → Byte → Byte → Byte → Byte → Byte → Byte → Byte → Byte → Byte → Byte → Byte → Byte → Byte → Instr) : List Byte → Option Instr
  | [b0, b1, b2, b3, b4, b5, b6, b7, b8, b9, b10, b11, b12, b13, b14] => some (f b0 b1 b2 b3 b4 b5 b6 b7 b8 b9 b10 b11 b12 b13 b14)
  | _ => none

/-- The request of a kind below 0x20, or none where the kind is no request's or the length is not the kind's. -/
def decodeLow (kind tag : Byte) (p : List Byte) : Option Instr :=
  if kind = 0x01 then fields0 (.ident tag) p
  else if kind = 0x02 then fields0 (.restart tag) p
  else if kind = 0x03 then fields0 (.save tag) p
  else if kind = 0x08 then decodeSiteStore tag p
  else if kind = 0x09 then fields1 (fun n => .siteErase tag n) p
  else if kind = 0x0A then fields1 (fun n => .siteRead tag n) p
  else if kind = 0x10 then
    fields15 (fun a0 a1 a2 a3 o0 o1 o2 o3 h0 h1 h2 h3 flag d0 d1 => .fix tag (quadOf a0 a1 a2 a3) (quadOf o0 o1 o2 o3) (quadOf h0 h1 h2 h3) flag (halfOf d0 d1)) p
  else if kind = 0x11 then fields4 (fun site flag e0 e1 => .solve tag site flag (halfOf e0 e1)) p
  else if kind = 0x12 then fields1 (fun site => .aim tag site) p
  else if kind = 0x13 then fields0 (.solutionRead tag) p
  else if kind = 0x18 then
    fields6 (fun layer first count attr h0 h1 => .mapWrite tag layer first count attr (halfOf h0 h1)) p
  else if kind = 0x19 then fields3 (fun layer first count => .mapRead tag layer first count) p
  else if kind = 0x1A then fields2 (fun h0 h1 => .ceilingSet tag (halfOf h0 h1)) p
  else if kind = 0x1B then fields2 (fun z0 z1 => .stowAzimuth tag (halfOf z0 z1)) p
  else if kind = 0x1C then fields0 (.bodyLock tag) p
  else if kind = 0x1D then fields0 (.violationRead tag) p
  else if kind = 0x1E then fields0 (.violationAck tag) p
  else none

/-- The request of a kind from 0x20 to 0x3F, or none. -/
def decodeMid (kind tag : Byte) (p : List Byte) : Option Instr :=
  if kind = 0x20 then fields3 (fun axis p0 p1 => .axisTarget tag axis (halfOf p0 p1)) p
  else if kind = 0x21 then fields2 (fun axis moment => .axisMoment tag axis moment) p
  else if kind = 0x22 then fields0 (.sync tag) p
  else if kind = 0x23 then fields1 (fun axis => .axisStop tag axis) p
  else if kind = 0x24 then fields3 (fun axis direction speed => .jog tag axis direction speed) p
  else if kind = 0x25 then fields1 (fun axis => .home tag axis) p
  else if kind = 0x26 then fields0 (.stow tag) p
  else if kind = 0x27 then fields1 (fun axis => .axisRead tag axis) p
  else if kind = 0x28 then fields2 (fun axis slewClass => .slewSet tag axis slewClass) p
  else if kind = 0x29 then fields3 (fun axis p0 p1 => .indexSet tag axis (halfOf p0 p1)) p
  else if kind = 0x30 then fields2 (fun h0 h1 => .mastTo tag (halfOf h0 h1)) p
  else if kind = 0x31 then fields0 (.mastLower tag) p
  else if kind = 0x32 then fields0 (.mastStop tag) p
  else if kind = 0x33 then fields0 (.mastRead tag) p
  else if kind = 0x34 then fields3 (fun name v0 v1 => .mastParam tag name (halfOf v0 v1)) p
  else if kind = 0x38 then fields0 (.senseRead tag) p
  else if kind = 0x39 then fields3 (fun item v0 v1 => .calSet tag item (halfOf v0 v1)) p
  else if kind = 0x3A then fields4 (fun t0 t1 s0 s1 => .limitSet tag (halfOf t0 t1) (halfOf s0 s1)) p
  else if kind = 0x3B then
    fields6 (fun g0 g1 w0 w1 l0 l1 => .windSet tag (halfOf g0 g1) (halfOf w0 w1) (halfOf l0 l1)) p
  else none

/-- The request of a kind from 0x40, or none. -/
def decodeHigh (kind tag : Byte) (p : List Byte) : Option Instr :=
  if kind = 0x40 then
    fields10 (fun source enable mode d0 d1 raising lowering rest positioner transmit => .tripConfig tag source enable mode (halfOf d0 d1) raising lowering rest positioner transmit) p
  else if kind = 0x41 then fields0 (.tripRead tag) p
  else if kind = 0x42 then fields2 (fun s0 s1 => .tripClear tag (halfOf s0 s1)) p
  else if kind = 0x44 then fields3 (fun kind origin site => .search tag kind origin site) p
  else if kind = 0x45 then fields0 (.searchAbort tag) p
  else if kind = 0x46 then fields0 (.searchRead tag) p
  else if kind = 0x47 then
    fields13 (fun profile i0 i1 m0 m1 g0 g1 d0 d1 samples budget r0 r1 => .searchParam tag profile (halfOf i0 i1) (halfOf m0 m1) (halfOf g0 g1) (halfOf d0 d1) samples budget (halfOf r0 r1)) p
  else if kind = 0x48 then fields3 (fun choice i0 i1 => .track tag choice (halfOf i0 i1)) p
  else if kind = 0x4C then fields1 (fun choice => .txRequest tag choice) p
  else if kind = 0x4D then fields0 (.txRead tag) p
  else if kind = 0x50 then
    fields7 (fun site h0 h1 o0 o1 i0 i1 => .deploy tag site (halfOf h0 h1) (halfOf o0 o1) (halfOf i0 i1)) p
  else if kind = 0x51 then fields0 (.stowAll tag) p
  else if kind = 0x52 then fields0 (.halt tag) p
  else if kind = 0x53 then fields0 (.seqRead tag) p
  else if kind = 0x58 then fields2 (fun k0 k1 => .noticeMask tag (halfOf k0 k1)) p
  else if kind = 0x59 then fields0 (.hush tag) p
  else if kind = 0x5A then fields0 (.unhush tag) p
  else if kind = 0x5B then fields2 (fun k0 k1 => .pendingClear tag (halfOf k0 k1)) p
  else if kind = 0x5C then fields4 (fun timer mode i0 i1 => .timerSet tag timer mode (halfOf i0 i1)) p
  else if kind = 0x5D then fields1 (fun timer => .timerRead tag timer) p
  else none

/-- The request that a whole frame spells (R196): none where its kind is no request's, or its length is not the one its kind
permits, so that the link answers it FORMAT. -/
def decodeFrame (f : Frame) : Option Instr :=
  if f.kind.toNat < 0x20 then decodeLow f.kind f.tag f.payload
  else if f.kind.toNat < 0x40 then decodeMid f.kind f.tag f.payload
  else decodeHigh f.kind f.tag f.payload

end Sys2Proof
end

