-- ==== Sys2Proof/Machine/State.lean ====
section
/-! DEFINITION. The state of the AL40: every piece of state the manual gives its twelve blocks and the Settings Store, as plain
data, and the state right after a power-on reset. What a block forms from other state at every moment (an effective sector
record, the raise limit, a reading, a window state, a reason set) is stored nowhere: it is a function of this state. -/

namespace Sys2Proof.Machine

open Sys2Proof

/-- Milliseconds left of a running time, or none while it does not run. -/
abbrev Timer := Option Nat

/-! ## The three ways a step ends -/

/-- The reasons for which the block could stop. The manual gives the AL40 none: every command has an effect or changes nothing,
so no command of this model faults. -/
inductive Fault where
  /-- Raised by nobody (safe): the manual names no event after which the AL40 runs no further. -/
  | haltedForGood
  deriving DecidableEq, Repr

/-- The reasons for which the model could refuse a command. -/
inductive Refusal where
  /-- Raised by `exec` alone, for a row of the table that has no meaning yet (safe: nothing is claimed of it). -/
  | notModelled (mnemonic : String)
  deriving DecidableEq, Repr

/-! ## Sector Map (R30 to R50) -/

/-- A sector's attribute, from the least to the most restrictive (R30, R31). -/
inductive Attr where
  | openSky | shadow | noTx | blocked
  deriving DecidableEq, Repr

/-- A sector record of one layer; the height has meaning for SHADOW alone (R30). -/
structure SectorRec where
  attr : Attr := .openSky
  height : Nat := 0
  deriving DecidableEq, Repr

/-- The map's stored settings: both layers (72 records each), the ceiling (0 for none) and the stow azimuth (R30, R33, R46). -/
structure MapSettings where
  body : List SectorRec
  survey : List SectorRec
  ceiling : Nat
  stowAzimuth : Nat
  deriving DecidableEq, Repr

/-- The kinds of violation (R40). -/
inductive ViolationKind where
  | pathBlocked | mapUnderMove | txSector
  deriving DecidableEq, Repr

/-- A full violation record (R40). -/
structure Violation where
  kind : ViolationKind
  sector : Nat
  pan : Int
  fixNumber : Nat
  deriving DecidableEq, Repr

/-! ## Site Table and Aiming Solver (R1 to R29) -/

/-- A learned-offset group (R2). -/
structure Learned where
  pan : Int
  tilt : Int
  lat : Int
  lon : Int
  deriving DecidableEq, Repr

/-- A site record (R1); the learned-offset group is the one part the image does not hold (R2). -/
structure Site where
  number : Nat
  name : List Byte
  lat : Int
  lon : Int
  alt : Int
  pol : Nat
  beaconFloor : Nat
  beaconCeiling : Nat
  learned : Option Learned
  deriving DecidableEq, Repr

/-- The fix record (R8); the heading is 0 when it is not present. -/
structure Fix where
  lat : Int
  lon : Int
  alt : Int
  heading : Nat
  headingPresent : Bool
  number : Nat
  deriving DecidableEq, Repr

/-- The status of the solution record (R11). -/
inductive SolutionStatus where
  | invalid | valid | noFix | noSite | geometry
  deriving DecidableEq, Repr

/-- The geometry detail of a solution refused GEOMETRY (R11). -/
inductive GeometryDetail where
  | latitude | tooNear | tooFar
  deriving DecidableEq, Repr

/-- An entry of the pan candidate list (R12). -/
structure Candidate where
  position : Int
  pathLength : Nat
  admissible : Bool
  firstBlocked : Option Nat
  preferred : Bool
  deriving DecidableEq, Repr

/-- The solution record (R11); a field the computation did not reach holds 0. -/
structure Solution where
  status : SolutionStatus := .invalid
  detail : Option GeometryDetail := none
  site : Nat := 0
  fixNumber : Nat := 0
  extension : Nat := 0
  north : Int := 0
  east : Int := 0
  distance : Nat := 0
  bearing : Nat := 0
  elevation : Int := 0
  azimuth : Nat := 0
  vanElevation : Int := 0
  polarisation : Nat := 0
  candidates : List Candidate := []
  panTarget : Int := 0
  tiltTarget : Int := 0
  polTarget : Int := 0
  tiltClamped : Bool := false
  offsetsApplied : Bool := false
  stale : Bool := false
  deriving DecidableEq, Repr

/-! ## Positioner Controller (R51 to R80) -/

/-- The owners of the positioner (R54); they also stamp an axis's move origin. -/
inductive Owner where
  | console | search | sequence | trip
  deriving DecidableEq, Repr

/-- The motion states of an axis (R51). -/
inductive Motion where
  | unref | homing | rest | slewing | settling | jogging | held
  deriving DecidableEq, Repr

/-- The update moments of an axis (R59). -/
inductive Moment where
  | immediate | atRest | onSync | held
  deriving DecidableEq, Repr

/-- The slew classes (R52). -/
inductive SlewClass where
  | full | threeQuarter | half | threeEighths
  deriving DecidableEq, Repr

/-- The last arrival statuses (R51). -/
inductive Arrival where
  | arrived | stopped | held | refused
  deriving DecidableEq, Repr

/-- The direction of an index edge (R53). -/
inductive Edge where
  | rising | falling
  deriving DecidableEq, Repr

/-- The outcomes of an index capture (R65, R70). -/
inductive CaptureOutcome where
  | corrected | slipped | referenced
  deriving DecidableEq, Repr

/-- An index capture record (R51, R65, R70). -/
structure Capture where
  outcome : CaptureOutcome
  edge : Edge
  raw : Option Int
  correction : Option Int
  deriving DecidableEq, Repr

/-- A jog in progress (R72): its direction, its speed and, on a referenced axis, its end point. -/
structure Jog where
  positive : Bool
  fast : Bool
  endPoint : Option Int
  deriving DecidableEq, Repr

/-- Where a homing stands (R68, R69). `stowing` is the stow by switches of R71, which runs the same approach. -/
inductive HomePhase where
  /-- moving at the approach speed until the stow switch closes -/
  | approach
  /-- moving at the homing speed; the next edge captures -/
  | seek
  /-- moving at the homing speed after the one reversal; the next edge captures -/
  | reversed
  /-- the pol moving positive until its index line releases -/
  | outward
  /-- a stow by switches -/
  | stowing
  deriving DecidableEq, Repr

/-- A homing in progress: whether it began referenced, and its phase. -/
structure Homing where
  begunReferenced : Bool
  phase : HomePhase
  deriving DecidableEq, Repr

/-- The stored settings of one axis (R51, R66). -/
structure AxisSettings where
  indexPosition : Int
  slewClass : SlewClass
  moment : Moment
  deriving DecidableEq, Repr

/-- The stored settings of the three axes. -/
structure AxesSettings where
  pan : AxisSettings
  tilt : AxisSettings
  pol : AxisSettings
  deriving DecidableEq, Repr

/-- The record of one axis (R51), less its stored settings. `position` is the encoder's count: the axis position while the axis
is referenced, the relative count while it is not. -/
structure AxisRec where
  referenced : Bool := false
  position : Int := 0
  motion : Motion := .unref
  target : Int := 0
  slot : Option Int := none
  origin : Owner := .console
  lastArrival : Option Arrival := none
  capture : Option Capture := none
  /-- the last arrival status that the present motion will write when it settles (R57, R58, R74) -/
  ending : Arrival := .arrived
  jog : Option Jog := none
  homing : Option Homing := none
  /-- the direction in which the drive pushes (R64, R68): positive when true -/
  driveUp : Bool := false
  /-- the direction of the last encoder count (R53): positive when true -/
  movedUp : Bool := false
  /-- the slew class taken when the present motion started (R52) -/
  classInUse : SlewClass := .full
  settleTimer : Timer := none
  jogTimer : Timer := none
  stallTimer : Timer := none
  /-- cdeg of progress from the stall mark in the driven direction (R64) -/
  progress : Int := 0
  deriving DecidableEq, Repr

/-- A set of axes. -/
structure AxisSet where
  pan : Bool := false
  tilt : Bool := false
  pol : Bool := false
  deriving DecidableEq, Repr

/-! ## Trip Unit (R121 to R140) -/

/-- The mast-raising choices of an action record (R123). -/
inductive RaisingChoice where
  | stop | lower
  deriving DecidableEq, Repr

/-- The mast-lowering choices (R123). -/
inductive LoweringChoice where
  | goOn | stop
  deriving DecidableEq, Repr

/-- The mast-at-rest choices (R123). -/
inductive RestChoice where
  | noAction | lower
  deriving DecidableEq, Repr

/-- The positioner choices (R123). -/
inductive PositionerChoice where
  | noAction | hold | stow
  deriving DecidableEq, Repr

/-- The transmit choices (R123). -/
inductive TransmitChoice where
  | noAction | inhibit
  deriving DecidableEq, Repr

/-- An action record (R123). -/
structure ActionRec where
  raising : RaisingChoice
  lowering : LoweringChoice
  rest : RestChoice
  positioner : PositionerChoice
  transmit : TransmitChoice
  deriving DecidableEq, Repr

/-- The combined action (R129); `none` in the two mast entries is NONE, the entry of no contributor. -/
structure CombinedAction where
  raising : Option RaisingChoice := none
  lowering : Option LoweringChoice := none
  rest : RestChoice := .noAction
  positioner : PositionerChoice := .noAction
  transmit : TransmitChoice := .noAction
  deriving DecidableEq, Repr

/-- The modes of a trip source (R122). -/
inductive TripMode where
  | latched | selfClearing
  deriving DecidableEq, Repr

/-- A whole configuration of a trip source (R122). -/
structure TripConfig where
  enabled : Bool
  mode : TripMode
  delay : Nat
  action : ActionRec
  deriving DecidableEq, Repr

/-- The states of a trip source (R122). -/
inductive TripState where
  | clear | active | releasing | latchedWait
  deriving DecidableEq, Repr

/-- The record of one trip source (R122). -/
structure SourceRec where
  state : TripState := .clear
  cause : Bool := false
  config : TripConfig
  staged : Option TripConfig := none
  /-- the release timer, in 100 ms units, and the milliseconds into its present unit -/
  timer : Nat := 0
  timerMs : Nat := 0
  axes : AxisSet := {}
  deriving DecidableEq, Repr

/-- The ten source records (R121). -/
structure Trips where
  estop : SourceRec
  drive : SourceRec
  axisStall : SourceRec
  mastStall : SourceRec
  slip : SourceRec
  wind : SourceRec
  tilt : SourceRec
  supply : SourceRec
  pressure : SourceRec
  aux : SourceRec
  deriving DecidableEq, Repr

/-- The stored configurations of the five configurable sources (R135). -/
structure TripSettings where
  wind : TripConfig
  tilt : TripConfig
  supply : TripConfig
  pressure : TripConfig
  aux : TripConfig
  deriving DecidableEq, Repr

/-- The Positioner Controller: its three axes, its owner, and what it has enacted of the combined action (R74, R75). -/
structure Positioner where
  pan : AxisRec := {}
  tilt : AxisRec := {}
  pol : AxisRec := {}
  owner : Owner := .console
  /-- the positioner entry of the combined action as last enacted -/
  enacted : PositionerChoice := .noAction
  /-- a trip STOW stands and has not run: it was refused, or a map change stopped it -/
  stowUnrun : Bool := false
  /-- the axes whose end of a running trip stow is awaited -/
  stowAwaits : AxisSet := {}
  deriving DecidableEq, Repr

/-! ## Mast Controller (R81 to R102) -/

/-- The owners of the mast (R84); they also stamp its move origin. -/
inductive MastOwner where
  | console | sequence | trip
  deriving DecidableEq, Repr

/-- The mast states (R83). -/
inductive MastState where
  | unref | nested | raising | lowering | clearWait | settling | nudging | rest | topping | held
  deriving DecidableEq, Repr

/-- The outcomes of a mast move (R84). -/
inductive MastOutcome where
  | reached | heightOff | stopped | held
  deriving DecidableEq, Repr

/-- The mast's situations (R83). -/
inductive Situation where
  | atRest | raising | lowering
  deriving DecidableEq, Repr

/-- How a settle began, which decides what follows it (R87, R91). -/
inductive SettleKind where
  | afterMove
  | afterTopUp
  | afterStop (outcome : MastOutcome)
  /-- a raise cut short by a new raise limit, with that limit -/
  | afterLimit (limit : Nat)
  /-- after a move, with the target lowered by a new raise limit during the settle -/
  | afterLowered
  deriving DecidableEq, Repr

/-- The six mast settings (R83). -/
structure MastSettings where
  maxExtension : Nat
  stowedPivot : Nat
  clearance : Nat
  stopLead : Nat
  tolerance : Nat
  sagAllowance : Nat
  deriving DecidableEq, Repr

/-- The Mast Controller, less its settings. -/
structure Mast where
  counter : Nat := 0
  referenced : Bool := false
  state : MastState := .unref
  target : Nat := 0
  nudges : Nat := 0
  outcome : Option MastOutcome := none
  owner : MastOwner := .console
  origin : MastOwner := .console
  compressor : Bool := false
  vent : Bool := false
  /-- the stop count of the present motion and the stop lead it was formed with (R86, R88) -/
  stopCount : Nat := 0
  leadInUse : Nat := 0
  /-- the direction of a nudge: upward when true -/
  nudgeUp : Bool := false
  /-- CLEAR_WAIT's memory: it interrupted a nudge (R89) -/
  waitsForNudge : Bool := false
  /-- the situation in which the mast was held (R95) -/
  heldIn : Situation := .atRest
  settleKind : SettleKind := .afterMove
  settleTimer : Timer := none
  stallTimer : Timer := none
  /-- counts of progress from the stall mark in the driven direction (R94) -/
  progress : Int := 0
  deriving DecidableEq, Repr

/-! ## Sensing Front End (R103 to R120) -/

/-- One converter channel: its filter, oldest count first, and its latest count (R103, R104). -/
structure ChannelRec where
  filter : List Nat := []
  latest : Nat := 0
  deriving DecidableEq, Repr

/-- The polarities of PRESSURE and AUX (R112). -/
inductive Polarity where
  | faultOpen | faultClosed
  deriving DecidableEq, Repr

/-- The stored settings of the front end (R105, R106, R112, R113, R118). -/
structure SenseSettings where
  pitchZero : Nat
  pitchGain : Nat
  rollZero : Nat
  rollGain : Nat
  supplyScale : Nat
  pressurePolarity : Polarity
  auxPolarity : Polarity
  tiltLimit : Nat
  supplyLow : Nat
  gateLength : Nat
  windRun : Nat
  windLimit : Nat
  deriving DecidableEq, Repr

/-- The front end's channels, its LEVEL window (R107) and its wind gate (R113). -/
structure Sense where
  level : ChannelRec := {}
  pitch : ChannelRec := {}
  roll : ChannelRec := {}
  supply : ChannelRec := {}
  levelFloor : Nat := 0
  levelCeiling : Nat := 4095
  gateElapsed : Nat := 0
  pulses : Nat := 0
  gust : Nat := 0
  windSpeed : Nat := 0
  deriving DecidableEq, Repr

/-- One discrete line (R110): its raw and its debounced level, its debounce time, and for an index line the position captured at
the raw change with the direction of motion there (R111). -/
structure LineRec where
  raw : Bool := false
  level : Bool := false
  timer : Timer := none
  captured : Option (Int × Bool) := none
  deriving DecidableEq, Repr

/-- The twelve discrete lines (R110). -/
structure Lines where
  estop : LineRec := {}
  brake : LineRec := {}
  drive : LineRec := {}
  pressure : LineRec := {}
  aux : LineRec := {}
  nest : LineRec := {}
  panStow : LineRec := {}
  tiltStow : LineRec := {}
  wrap : LineRec := {}
  panIndex : LineRec := {}
  tiltIndex : LineRec := {}
  polIndex : LineRec := {}
  deriving DecidableEq, Repr

/-! ## Peak Search Engine (R141 to R165) -/

/-- The kinds of search (R141). -/
inductive SearchKind where
  | acquire | track
  deriving DecidableEq, Repr

/-- The states of the search record (R141). -/
inductive SearchState where
  | idle | measureCentre | probing | finishing
  deriving DecidableEq, Repr

/-- The origin of a search (R141). -/
inductive SearchOrigin where
  | site (n : Nat)
  | here
  deriving DecidableEq, Repr

/-- A search profile (R142). -/
structure Profile where
  initialStep : Nat := 0
  minStep : Nat := 0
  margin : Nat := 0
  dwell : Nat := 0
  samples : Nat := 0
  budget : Nat := 0
  radius : Nat := 0
  deriving DecidableEq, Repr

/-- The outcome of a probe (R141). -/
inductive ProbeOutcome where
  | unmeasured
  | level (v : Nat)
  | skippedRadius
  | skippedTravel
  | skippedMap
  deriving DecidableEq, Repr

/-- A probe-list entry (R141). -/
structure Probe where
  pan : Int := 0
  tilt : Int := 0
  outcome : ProbeOutcome := .unmeasured
  deriving DecidableEq, Repr

/-- How a search ended (R141). -/
inductive FinalStatus where
  | converged | budgetSpent | beaconAbsent | saturated | aborted | tripped | noFix | noSite | geometry
  deriving DecidableEq, Repr

/-- The measurement in progress (R146, R147): none, waiting for the axes, waiting out the dwell, or taking samples. -/
inductive Measuring where
  | idle
  | moving
  | dwelling
  | sampling (counts : List Nat)
  deriving DecidableEq, Repr

/-- The search record (R141), and the engine's own place in its procedure. -/
structure Search where
  state : SearchState := .idle
  kind : Option SearchKind := none
  origin : Option SearchOrigin := none
  beaconSite : Option Nat := none
  ownerBefore : Option Owner := none
  profile : Profile := {}
  startPan : Int := 0
  startTilt : Int := 0
  raw : Option (Int × Int) := none
  centrePan : Int := 0
  centreTilt : Int := 0
  centreLevel : Nat := 0
  step : Nat := 0
  measured : Nat := 0
  probes : List Probe := [{}, {}, {}, {}]
  final : Option FinalStatus := none
  stored : Bool := false
  /-- the number, from 0, of the probe the engine is at -/
  probeAt : Nat := 0
  measuring : Measuring := .idle
  dwellTimer : Timer := none
  deriving DecidableEq, Repr

/-- The outcome of a TRACK timer expiry (R158). -/
inductive TrackOutcome where
  | started | droppedDisabled | droppedRunning | droppedNoSite | droppedOwner | droppedAxes | droppedMast
  deriving DecidableEq, Repr

/-- The tracking state (R158). -/
structure Tracking where
  enabled : Bool := false
  site : Option Nat := none
  lastExpiry : Option TrackOutcome := none
  deriving DecidableEq, Repr

/-! ## Transmit Gate (R166 to R175) -/

/-- The gate states (R166); TX_PERMIT is asserted exactly in `on`. -/
inductive GateState where
  | off | wait | on
  deriving DecidableEq, Repr

/-- The Transmit Gate's own state (R166). Its copies of its inputs equal their owners' state at every moment. -/
structure Gate where
  request : Bool := false
  state : GateState := .off
  deriving DecidableEq, Repr

/-! ## Sequence Controller (R176 to R192) -/

/-- The sequence states (R176). -/
inductive SeqState where
  | idle | deployHome | deployRaise | deployAim | deploySearch | deployTx | deployed
  | stowPositioner | stowMast | failed | aborted
  deriving DecidableEq, Repr

/-- The deploy record (R176). -/
structure DeployRec where
  site : Nat
  height : Nat
  search : Bool
  tx : Bool
  track : Bool
  interval : Nat
  deriving DecidableEq, Repr

/-- The causes of a failure (R176). -/
inductive Cause where
  | range | busy | state | unreferenced | blocked | lowMast | noFix | noSite | geometry | tripped
  | heightOff | stopped | beaconAbsent | saturated | aborted | txTimeout | txWithdrawn
  deriving DecidableEq, Repr

/-- The failure record (R176). -/
structure Failure where
  stage : SeqState
  cause : Cause
  deriving DecidableEq, Repr

/-- The Sequence Controller. -/
structure Sequence where
  state : SeqState := .idle
  deploy : Option DeployRec := none
  failure : Option Failure := none
  /-- the transmit wait timer, in 100 ms units, and the milliseconds into its present unit -/
  txWait : Option Nat := none
  txWaitMs : Nat := 0
  /-- the axes whose homing or move of the present stage has not yet ended (R191) -/
  awaits : AxisSet := {}
  /-- the stage's request, MAST_TO or SEARCH, has been issued (R182, R184, R191) -/
  issued : Bool := false
  deriving DecidableEq, Repr

/-! ## Console Link (R193 to R202) -/

/-- The statuses of a reply, in the order of their codes (spec/10, status codes). -/
inductive Status where
  | ok | clamped | busy | state | locked | range | tripped | unreferenced | blocked
  | noFix | noSite | geometry | lowMast | format
  deriving DecidableEq, Repr

/-- The states of the frame receiver (R194). -/
inductive RxState where
  | hunt | length | kind | tag | payload | check
  deriving DecidableEq, Repr

/-- The frame receiver with its partial frame (R194). -/
structure Receiver where
  state : RxState := .hunt
  length : Nat := 0
  kind : Byte := 0
  tag : Byte := 0
  payload : List Byte := []
  crc : List Byte := []
  gapTimer : Timer := none
  deriving DecidableEq, Repr

/-- One entry of the reply queue: the payloads of its frames, more than one for a segmented reply (R197). -/
structure Reply where
  kind : Byte
  tag : Byte
  parts : List (List Byte)
  /-- it is the reply to RESTART, at whose end the restart takes effect (R200) -/
  restarts : Bool := false
  deriving DecidableEq, Repr

/-- The effects an entry places after its reply has been queued (R196). -/
inductive After where
  | nothing
  | atRest (a : Axis)
  | mastTo
  | mastLower
  | deploy
  | stowAll
  deriving DecidableEq, Repr

/-- The frame being sent, with the payloads of the segments that follow it (R198). -/
structure Sending where
  frame : Frame
  rest : List (List Byte) := []
  restarts : Bool := false
  /-- what is left of the frame's time on the line, in hundredths of a byte time -/
  left : Nat := 0
  deriving DecidableEq, Repr

/-- The Console Link. -/
structure Link where
  receiver : Receiver := {}
  /-- the receive queue, head first, at most 4 frames (R195) -/
  queue : List Frame := []
  /-- the reply queue, oldest first, at most 4 replies (R196) -/
  replies : List Reply := []
  /-- a formed reply that waits for a place, with the effects that follow it (R196) -/
  waiting : Option (Reply × After) := none
  sending : Option Sending := none
  /-- a RESTART has been taken: no further frame is taken (R200) -/
  restarting : Bool := false
  deriving DecidableEq, Repr

/-! ## Notice Unit and Interval Timers (R203 to R211) -/

/-- The eight notice kinds, in their priority order (R203). -/
inductive Notice where
  | started | trip | violation | txChange | arrival | searchDone | sequence | report
  deriving DecidableEq, Repr

/-- The resets (R216). -/
inductive ResetKind where
  | powerOn | resetLine | restart
  deriving DecidableEq, Repr

/-- The notice masks and pending flags, bit 0 for STARTED to bit 7 for REPORT, the hush flag, and the reset that STARTED names
(R203, R204, R206). -/
structure Notices where
  masks : BitVec 8 := 0
  savedMasks : BitVec 8 := 0
  pending : BitVec 8 := 0
  hush : Bool := false
  lastReset : ResetKind := .powerOn
  deriving DecidableEq, Repr

/-- The modes of an interval timer (R208). -/
inductive TimerMode where
  | off | oneShot | repeating
  deriving DecidableEq, Repr

/-- An interval timer (R208), with the milliseconds into its present unit. -/
structure IntervalTimer where
  mode : TimerMode := .off
  interval : Nat := 1
  elapsed : Nat := 0
  elapsedMs : Nat := 0
  deriving DecidableEq, Repr

/-! ## Settings Store (R212 to R217) -/

/-- The working settings that one block each owns and the image holds (R212), apart from the sites and the trip configurations. -/
structure WorkSettings where
  map : MapSettings
  axes : AxesSettings
  mast : MastSettings
  sense : SenseSettings
  acquire : Profile
  track : Profile
  deriving DecidableEq, Repr

/-- The stored settings of R212, as the image and a snapshot hold them. Its sites have no learned-offset group. -/
structure Settings where
  work : WorkSettings
  sites : List Site
  trips : TripSettings
  deriving DecidableEq, Repr

/-- The Settings Store. `imageGood` says that the image's CRC-32 matches its contents (R213, R215). A snapshot is held exactly while
the store state is SAVING (R214). -/
structure Store where
  image : Settings
  imageGood : Bool
  snapshot : Option Settings := none
  saveTimer : Timer := none
  storeBad : Bool := false
  deriving DecidableEq, Repr

/-! ## The whole state -/

/-- The state of the AL40, and the queue of the commands that wait for it. -/
structure State where
  /-- the commands that wait, first in, first out -/
  pending : List Instr
  work : WorkSettings
  sites : List Site
  fix : Option Fix
  fixNumber : Nat
  solution : Solution
  lock : Bool
  violation : Option Violation
  more : Bool
  pos : Positioner
  mast : Mast
  sense : Sense
  lines : Lines
  trips : Trips
  search : Search
  tracking : Tracking
  gate : Gate
  seq : Sequence
  link : Link
  notices : Notices
  report : IntervalTimer
  trackTimer : IntervalTimer
  store : Store
  deriving DecidableEq, Repr

/-! ## The factory defaults (R213) and the state after reset -/

/-- The factory default of the map (R30, R33, R46). -/
def factoryMap : MapSettings :=
  { body := List.replicate 72 {}, survey := List.replicate 72 {}, ceiling := 0, stowAzimuth := 18000 }

/-- The factory default of the axes (R51, R52). -/
def factoryAxes : AxesSettings :=
  { pan := { indexPosition := 150, slewClass := .full, moment := .immediate }
    tilt := { indexPosition := -950, slewClass := .full, moment := .immediate }
    pol := { indexPosition := 0, slewClass := .full, moment := .immediate } }

/-- The factory default of the mast settings (R83). -/
def factoryMast : MastSettings :=
  { maxExtension := 15000, stowedPivot := 3400, clearance := 1800, stopLead := 60, tolerance := 40, sagAllowance := 100 }

/-- The factory default of the front end (R105, R106, R112, R113, R118). -/
def factorySense : SenseSettings :=
  { pitchZero := 2048, pitchGain := 64, rollZero := 2048, rollGain := 64, supplyScale := 400
    pressurePolarity := .faultOpen, auxPolarity := .faultClosed, tiltLimit := 500, supplyLow := 110
    gateLength := 1000, windRun := 700, windLimit := 180 }

/-- The factory default of the ACQUIRE profile (R142). -/
def factoryAcquire : Profile :=
  { initialStep := 100, minStep := 5, margin := 8, dwell := 300, samples := 16, budget := 40, radius := 300 }

/-- The factory default of the TRACK profile (R142). -/
def factoryTrack : Profile :=
  { initialStep := 20, minStep := 5, margin := 8, dwell := 300, samples := 16, budget := 12, radius := 50 }

/-- The factory default of the five configurable trip sources (R135). -/
def factoryTrips : TripSettings :=
  { wind := { enabled := true, mode := .selfClearing, delay := 300
              action := { raising := .lower, lowering := .goOn, rest := .lower, positioner := .stow, transmit := .inhibit } }
    tilt := { enabled := true, mode := .latched, delay := 50
              action := { raising := .stop, lowering := .goOn, rest := .noAction, positioner := .noAction, transmit := .noAction } }
    supply := { enabled := true, mode := .selfClearing, delay := 50
                action := { raising := .stop, lowering := .goOn, rest := .noAction, positioner := .hold, transmit := .inhibit } }
    pressure := { enabled := true, mode := .latched, delay := 50
                  action := { raising := .stop, lowering := .goOn, rest := .noAction, positioner := .noAction,
                              transmit := .noAction } }
    aux := { enabled := false, mode := .latched, delay := 50
             action := { raising := .stop, lowering := .goOn, rest := .noAction, positioner := .noAction, transmit := .inhibit } } }

/-- The factory default of every stored setting (R213). -/
def factorySettings : Settings :=
  { work := { map := factoryMap, axes := factoryAxes, mast := factoryMast, sense := factorySense
              acquire := factoryAcquire, track := factoryTrack }
    sites := []
    trips := factoryTrips }

/-- A fixed source with its action record (R121, R135): always enabled, always LATCHED, without a release delay. -/
def fixedSource (action : ActionRec) : SourceRec :=
  { config := { enabled := true, mode := .latched, delay := 0, action := action } }

/-- The ten sources, all CLEAR, with the configurations given (R135, R140). -/
def clearTrips (t : TripSettings) : Trips :=
  { estop := fixedSource { raising := .stop, lowering := .stop, rest := .noAction, positioner := .hold, transmit := .inhibit }
    drive := fixedSource { raising := .lower, lowering := .goOn, rest := .lower, positioner := .stow, transmit := .inhibit }
    axisStall := fixedSource { raising := .stop, lowering := .goOn, rest := .noAction, positioner := .hold, transmit := .inhibit }
    mastStall := fixedSource { raising := .stop, lowering := .stop, rest := .noAction, positioner := .noAction,
                               transmit := .inhibit }
    slip := fixedSource { raising := .stop, lowering := .goOn, rest := .noAction, positioner := .hold, transmit := .inhibit }
    wind := { config := t.wind }
    tilt := { config := t.tilt }
    supply := { config := t.supply }
    pressure := { config := t.pressure }
    aux := { config := t.aux } }

/-- The raw levels of the lines at the reset state: a van parked with its brake on, air in the mast, the mast nested and the dish
stowed. DESIGN CHOICE, log entry 1. -/
def parkedLines : Lines :=
  { brake := { raw := true, level := true }
    pressure := { raw := true, level := true }
    nest := { raw := true, level := true }
    panStow := { raw := true, level := true }
    tiltStow := { raw := true, level := true } }

/-- The AL40 right after a power-on reset that loaded a good image of the factory defaults (R211, R213 and the reset table of
every chapter), with no command waiting. STARTED has been raised at an idle transmitter, which has taken it at once: its flag is clear and
its frame is being sent (R198, R204). The lines and the image are inputs of the reset: log entry 1. -/
def State.reset : State :=
  { pending := []
    work := factorySettings.work
    sites := []
    fix := none
    fixNumber := 0
    solution := {}
    lock := false
    violation := none
    more := false
    pos := {}
    mast := { referenced := true, state := .nested }
    sense := { gust := 26 }
    lines := parkedLines
    trips := clearTrips factoryTrips
    search := {}
    tracking := {}
    gate := {}
    seq := {}
    link := { sending := some { frame := { kind := 0xE0, tag := 0, payload := [0, 3, 0, 0] }, left := 1000 } }
    notices := {}
    report := {}
    trackTimer := {}
    store := { image := factorySettings, imageGood := true } }

end Sys2Proof.Machine
end

