-- ==== Sys2Proof/Machine/Ops.lean ====
section
/-! DEFINITION. The shared operations that every block uses: reading and writing an axis, a line and a trip source, raising a notice,
recording a violation, and the manual's rounding. -/

namespace Sys2Proof.Machine

open Sys2Proof

/-! ## Rounding (conventions of spec/00, R14) -/

/-- The nearest integer to `num / den`, halves away from zero (R14), for a positive `den`. -/
def roundDiv (num : Int) (den : Nat) : Int :=
  if num < 0 then -((2 * num.natAbs + den) / (2 * den) : Nat) else ((2 * num.natAbs + den) / (2 * den) : Nat)

/-- `num / den` toward zero, for a positive `den`. -/
def truncDiv (num : Int) (den : Nat) : Int := Int.tdiv num den

/-- `num / den` upward, for a positive `den`. -/
def ceilDiv (num den : Nat) : Nat := (num + den - 1) / den

/-- `x` brought into the range from `lo` to `hi`. -/
def clampInt (lo hi x : Int) : Int := if x < lo then lo else if hi < x then hi else x

/-- `x` brought into the range from `lo` to `hi`. -/
def clampNat (lo hi x : Nat) : Nat := if x < lo then lo else if hi < x then hi else x

/-! ## Axes -/

/-- The record of an axis. -/
def Positioner.axis (p : Positioner) : Axis → AxisRec
  | .pan => p.pan
  | .tilt => p.tilt
  | .pol => p.pol

/-- The positioner with another record for an axis. -/
def Positioner.setAxis (p : Positioner) (a : Axis) (x : AxisRec) : Positioner :=
  match a with
  | .pan => { p with pan := x }
  | .tilt => { p with tilt := x }
  | .pol => { p with pol := x }

/-- The record of an axis. -/
def State.axis (s : State) (a : Axis) : AxisRec := s.pos.axis a

/-- The state with another record for an axis. -/
def State.setAxis (s : State) (a : Axis) (x : AxisRec) : State := { s with pos := s.pos.setAxis a x }

/-- The stored settings of an axis. -/
def AxesSettings.axis (p : AxesSettings) : Axis → AxisSettings
  | .pan => p.pan
  | .tilt => p.tilt
  | .pol => p.pol

/-- The axes' settings with others for one axis. -/
def AxesSettings.setAxis (p : AxesSettings) (a : Axis) (x : AxisSettings) : AxesSettings :=
  match a with
  | .pan => { p with pan := x }
  | .tilt => { p with tilt := x }
  | .pol => { p with pol := x }

/-- The stored settings of an axis. -/
def State.axisSettings (s : State) (a : Axis) : AxisSettings := s.work.axes.axis a

/-- The state with other stored settings for an axis. -/
def State.setAxisSettings (s : State) (a : Axis) (x : AxisSettings) : State :=
  { s with work := { s.work with axes := s.work.axes.setAxis a x } }

/-- The three axes in the order of R51. -/
def allAxes : List Axis := [.pan, .tilt, .pol]

/-- Whether an axis belongs to the set. -/
def AxisSet.has (t : AxisSet) : Axis → Bool
  | .pan => t.pan
  | .tilt => t.tilt
  | .pol => t.pol

/-- The set with an axis put in or taken out. -/
def AxisSet.set (t : AxisSet) (a : Axis) (b : Bool) : AxisSet :=
  match a with
  | .pan => { t with pan := b }
  | .tilt => { t with tilt := b }
  | .pol => { t with pol := b }

/-- Whether the set is empty. -/
def AxisSet.isEmpty (t : AxisSet) : Bool := !t.pan && !t.tilt && !t.pol

/-! ## Lines -/

/-- The record of a line. -/
def Lines.line (l : Lines) : Line → LineRec
  | .estop => l.estop
  | .brake => l.brake
  | .drive => l.drive
  | .pressure => l.pressure
  | .aux => l.aux
  | .nest => l.nest
  | .panStow => l.panStow
  | .tiltStow => l.tiltStow
  | .wrap => l.wrap
  | .panIndex => l.panIndex
  | .tiltIndex => l.tiltIndex
  | .polIndex => l.polIndex

/-- The lines with another record for one. -/
def Lines.setLine (l : Lines) (n : Line) (x : LineRec) : Lines :=
  match n with
  | .estop => { l with estop := x }
  | .brake => { l with brake := x }
  | .drive => { l with drive := x }
  | .pressure => { l with pressure := x }
  | .aux => { l with aux := x }
  | .nest => { l with nest := x }
  | .panStow => { l with panStow := x }
  | .tiltStow => { l with tiltStow := x }
  | .wrap => { l with wrap := x }
  | .panIndex => { l with panIndex := x }
  | .tiltIndex => { l with tiltIndex := x }
  | .polIndex => { l with polIndex := x }

/-- The axis whose index line a line is (R53). -/
def lineAxis : Line → Option Axis
  | .panIndex => some .pan
  | .tiltIndex => some .tilt
  | .polIndex => some .pol
  | _ => none

/-- The index line of an axis (R53). -/
def indexLine : Axis → Line
  | .pan => .panIndex
  | .tilt => .tiltIndex
  | .pol => .polIndex

/-- The lines in the order of R110. -/
def allLines : List Line :=
  [.estop, .brake, .drive, .pressure, .aux, .nest, .panStow, .tiltStow, .wrap, .panIndex, .tiltIndex, .polIndex]

/-- The stow window: PAN_STOW and TILT_STOW both closed (R53). -/
def State.windowClosed (s : State) : Bool := s.lines.panStow.level && s.lines.tiltStow.level

/-! ## Trip sources -/

/-- The record of a source. -/
def Trips.source (t : Trips) : Source → SourceRec
  | .estop => t.estop
  | .drive => t.drive
  | .axisStall => t.axisStall
  | .mastStall => t.mastStall
  | .slip => t.slip
  | .wind => t.wind
  | .tilt => t.tilt
  | .supply => t.supply
  | .pressure => t.pressure
  | .aux => t.aux

/-- The unit with another record for a source. -/
def Trips.setSource (t : Trips) (n : Source) (x : SourceRec) : Trips :=
  match n with
  | .estop => { t with estop := x }
  | .drive => { t with drive := x }
  | .axisStall => { t with axisStall := x }
  | .mastStall => { t with mastStall := x }
  | .slip => { t with slip := x }
  | .wind => { t with wind := x }
  | .tilt => { t with tilt := x }
  | .supply => { t with supply := x }
  | .pressure => { t with pressure := x }
  | .aux => { t with aux := x }

/-- The ten sources in the order of R121. -/
def allSources : List Source :=
  [.estop, .drive, .axisStall, .mastStall, .slip, .wind, .tilt, .supply, .pressure, .aux]

/-- The configurable sources (R121). -/
def configurable : Source → Bool
  | .wind | .tilt | .supply | .pressure | .aux => true
  | _ => false

/-- The state with another record for a trip source. -/
def State.setSource (s : State) (n : Source) (x : SourceRec) : State := { s with trips := s.trips.setSource n x }

/-! ## Converter channels -/

/-- The record of a channel. -/
def Sense.channel (x : Sense) : Channel → ChannelRec
  | .level => x.level
  | .pitch => x.pitch
  | .roll => x.roll
  | .supply => x.supply

/-- The front end with another record for a channel. -/
def Sense.setChannel (x : Sense) (c : Channel) (r : ChannelRec) : Sense :=
  match c with
  | .level => { x with level := r }
  | .pitch => { x with pitch := r }
  | .roll => { x with roll := r }
  | .supply => { x with supply := r }

/-! ## The mast's heights (R81) -/

/-- The extension, in mm. -/
def Mast.extension (m : Mast) : Nat := 2 * m.counter

/-- The extension, in mm. -/
def State.extension (s : State) : Nat := s.mast.extension

/-- The pivot height: the stowed pivot height plus the extension, in mm. -/
def State.pivotHeight (s : State) : Nat := s.work.mast.stowedPivot + s.extension

/-- The raise limit (R33), which the Sector Map forms from the ceiling and two mast settings. -/
def State.raiseLimit (s : State) : Nat :=
  if s.work.map.ceiling = 0 then s.work.mast.maxExtension
  else min s.work.mast.maxExtension (s.work.map.ceiling - s.work.mast.stowedPivot)

/-- The mast condition of R76: the mast is referenced and at or above the clearance height. -/
def State.mastReady (s : State) : Bool := s.mast.referenced && decide (s.work.mast.clearance ≤ s.extension)

/-! ## Notices (R204) -/

/-- The bit of a kind in a set of kinds: bit 0 for STARTED to bit 7 for REPORT. -/
def Notice.bit : Notice → BitVec 8
  | .started => 0x01
  | .trip => 0x02
  | .violation => 0x04
  | .txChange => 0x08
  | .arrival => 0x10
  | .searchDone => 0x20
  | .sequence => 0x40
  | .report => 0x80

/-- A raise of a notice sets its pending flag, whatever its mask and hush (R204). -/
def State.raise (s : State) (k : Notice) : State :=
  { s with notices := { s.notices with pending := s.notices.pending ||| k.bit } }

/-! ## Violations (R40) -/

/-- A violation fills an empty record and raises VIOLATION, or sets the more flag of a full one (R40). -/
def State.recordViolation (s : State) (kind : ViolationKind) (sector : Nat) (pan : Int) : State :=
  match s.violation with
  | none => { s with violation := some { kind := kind, sector := sector, pan := pan, fixNumber := s.fixNumber } }.raise .violation
  | some _ => { s with more := true }

/-! ## Ownership of the positioner (R54) -/

/-- The three pending slots emptied (R59). -/
def Positioner.emptySlots (p : Positioner) : Positioner :=
  { p with pan := { p.pan with slot := none }, tilt := { p.tilt with slot := none }, pol := { p.pol with slot := none } }

/-- The positioner passes to an owner; leaving CONSOLE empties the pending slots (R54). -/
def State.setOwner (s : State) (o : Owner) : State :=
  { s with pos := { (if s.pos.owner = .console ∧ o ≠ .console then s.pos.emptySlots else s.pos) with owner := o } }

/-! ## Sites -/

/-- The record of a site number, if one is present. -/
def State.site? (s : State) (n : Nat) : Option Site := s.sites.find? (fun r => r.number == n)

/-- A site record put in its place by its number, replacing one of the same number (R1). -/
def insertSite (r : Site) : List Site → List Site
  | [] => [r]
  | x :: xs =>
    if r.number < x.number then r :: x :: xs
    else if r.number = x.number then r :: xs
    else x :: insertSite r xs

/-! ## Who runs -/

/-- A search is running (R141). -/
def State.searching (s : State) : Bool := decide (s.search.state ≠ .idle)

/-- A sequence is running (R176). -/
def State.sequencing (s : State) : Bool :=
  match s.seq.state with
  | .idle | .failed | .aborted => false
  | _ => true

end Sys2Proof.Machine
end

