-- ==== Sys2Proof/Machine/Operands.lean ====
section
/-! DEFINITION. Reading the fields of a request: every enumeration is numbered from 0 in the order in which its defining rule or
table lists it (field codings of spec/10); a code outside it is none. -/

namespace Sys2Proof.Machine

open Sys2Proof

/-- A flag: 0 clear, 1 set. -/
def flagOf (b : Byte) : Option Bool :=
  if b = 0 then some false else if b = 1 then some true else none

/-- An axis. -/
def axisOf (b : Byte) : Option Axis :=
  if b = 0 then some .pan else if b = 1 then some .tilt else if b = 2 then some .pol else none

/-- The axes an AXIS_STOP names: one axis, or 3 for ALL (R77). -/
def axesOf (b : Byte) : Option (List Axis) :=
  if b = 3 then some allAxes else (axisOf b).map (fun a => [a])

/-- An update moment (R59). -/
def momentOf (b : Byte) : Option Moment :=
  if b = 0 then some .immediate else if b = 1 then some .atRest
  else if b = 2 then some .onSync else if b = 3 then some .held else none

/-- A slew class (R52). -/
def slewClassOf (b : Byte) : Option SlewClass :=
  if b = 0 then some .full else if b = 1 then some .threeQuarter
  else if b = 2 then some .half else if b = 3 then some .threeEighths else none

/-- A jog direction: POSITIVE or NEGATIVE (R72); true for positive. -/
def directionOf (b : Byte) : Option Bool :=
  if b = 0 then some true else if b = 1 then some false else none

/-- A jog speed: SLOW or FAST (R72); true for fast. -/
def speedOf (b : Byte) : Option Bool :=
  if b = 0 then some false else if b = 1 then some true else none

/-- An attribute (R30). -/
def attrOf (b : Byte) : Option Attr :=
  if b = 0 then some .openSky else if b = 1 then some .shadow
  else if b = 2 then some .noTx else if b = 3 then some .blocked else none

/-- The layers of R42 and R44. -/
inductive Layer where
  | body | survey | effective
  deriving DecidableEq, Repr

/-- A layer; EFFECTIVE is one for MAP_READ alone (R44). -/
def layerOf (b : Byte) : Option Layer :=
  if b = 0 then some .body else if b = 1 then some .survey else if b = 2 then some .effective else none

/-- The six mast settings (R83). -/
inductive MastSetting where
  | maxExtension | stowedPivot | clearance | stopLead | tolerance | sagAllowance
  deriving DecidableEq, Repr

/-- The name of a mast setting (R83, R101). -/
def mastSettingOf (b : Byte) : Option MastSetting :=
  if b = 0 then some .maxExtension else if b = 1 then some .stowedPivot else if b = 2 then some .clearance
  else if b = 3 then some .stopLead else if b = 4 then some .tolerance else if b = 5 then some .sagAllowance else none

/-- The calibration items (R117). -/
inductive CalItem where
  | pitchZero | rollZero | pitchGain | rollGain | supplyScale | pressurePolarity | auxPolarity | levelHere
  deriving DecidableEq, Repr

/-- A calibration item, in the order of the table of R117. -/
def calItemOf (b : Byte) : Option CalItem :=
  if b = 0 then some .pitchZero else if b = 1 then some .rollZero else if b = 2 then some .pitchGain
  else if b = 3 then some .rollGain else if b = 4 then some .supplyScale else if b = 5 then some .pressurePolarity
  else if b = 6 then some .auxPolarity else if b = 7 then some .levelHere else none

/-- A polarity, carried in the low byte of a value field (R112, field codings of spec/10). -/
def polarityOf (v : Half) : Option Polarity :=
  if v.extractLsb' 0 8 = 0 then some .faultOpen else if v.extractLsb' 0 8 = 1 then some .faultClosed else none

/-- A trip source (R121). -/
def sourceOf (b : Byte) : Option Source :=
  if b = 0 then some .estop else if b = 1 then some .drive else if b = 2 then some .axisStall
  else if b = 3 then some .mastStall else if b = 4 then some .slip else if b = 5 then some .wind
  else if b = 6 then some .tilt else if b = 7 then some .supply else if b = 8 then some .pressure
  else if b = 9 then some .aux else none

/-- The place of a source in a set of sources (R121). -/
def sourceIndex : Source → Nat
  | .estop => 0
  | .drive => 1
  | .axisStall => 2
  | .mastStall => 3
  | .slip => 4
  | .wind => 5
  | .tilt => 6
  | .supply => 7
  | .pressure => 8
  | .aux => 9

/-- A set of sources (R138): none where it is empty or names an unknown source. -/
def sourceSetOf (v : Half) : Option (List Source) :=
  if v = 0 ∨ 0x3FF < v.toNat then none else some (allSources.filter (fun n => v.getLsbD (sourceIndex n)))

/-- A trip mode (R122). -/
def tripModeOf (b : Byte) : Option TripMode :=
  if b = 0 then some .latched else if b = 1 then some .selfClearing else none

/-- A mast-raising choice (R123). -/
def raisingOf (b : Byte) : Option RaisingChoice :=
  if b = 0 then some .stop else if b = 1 then some .lower else none

/-- A mast-lowering choice (R123). -/
def loweringOf (b : Byte) : Option LoweringChoice :=
  if b = 0 then some .goOn else if b = 1 then some .stop else none

/-- A mast-at-rest choice (R123). -/
def restOf (b : Byte) : Option RestChoice :=
  if b = 0 then some .noAction else if b = 1 then some .lower else none

/-- A positioner choice (R123). -/
def positionerOf (b : Byte) : Option PositionerChoice :=
  if b = 0 then some .noAction else if b = 1 then some .hold else if b = 2 then some .stow else none

/-- A transmit choice (R123). -/
def transmitOf (b : Byte) : Option TransmitChoice :=
  if b = 0 then some .noAction else if b = 1 then some .inhibit else none

/-- The action record that five entries spell (R123, R136). -/
def actionOf (raising lowering rest positioner transmit : Byte) : Option ActionRec :=
  match raisingOf raising, loweringOf lowering, restOf rest, positionerOf positioner, transmitOf transmit with
  | some r, some l, some n, some p, some t => some { raising := r, lowering := l, rest := n, positioner := p, transmit := t }
  | _, _, _, _, _ => none

/-- A search kind, which is also the name of a profile (R141, R142). -/
def searchKindOf (b : Byte) : Option SearchKind :=
  if b = 0 then some .acquire else if b = 1 then some .track else none

/-- A search origin with its site number (R143). -/
def searchOriginOf (b : Byte) (n : Nat) : Option SearchOrigin :=
  if b = 0 then some (.site n) else if b = 1 then some .here else none

/-- ON or OFF (R164, R173); true for on. -/
def choiceOf (b : Byte) : Option Bool :=
  if b = 0 then some true else if b = 1 then some false else none

/-- The two interval timers (R208). -/
inductive TimerName where
  | report | track
  deriving DecidableEq, Repr

/-- An interval timer (R209). -/
def timerOf (b : Byte) : Option TimerName :=
  if b = 0 then some .report else if b = 1 then some .track else none

/-- The mode of an interval timer (R208). -/
def timerModeOf (b : Byte) : Option TimerMode :=
  if b = 0 then some .off else if b = 1 then some .oneShot else if b = 2 then some .repeating else none

/-- A set of notice kinds (R205): none where it has a bit above bit 7. -/
def noticeSetOf (v : Half) : Option (BitVec 8) :=
  if 0xFF < v.toNat then none else some (v.extractLsb' 0 8)

/-- An interval in units of 100 ms, clamped to 1 to 36,000 (R164, R179, R209), and whether the clamp acted. -/
def intervalOf (v : Half) : Nat × Bool := (clampNat 1 36000 v.toNat, decide (clampNat 1 36000 v.toNat ≠ v.toNat))

end Sys2Proof.Machine
end

