-- ==== Sys2Proof/Machine/SectorMap.lean ====
section
/-! DEFINITION. The Sector Map as a judge (R30 to R38): effective records, the sector under the pan, pan paths, the end point of a
jog, the choice among pan candidates. -/

namespace Sys2Proof.Machine

open Sys2Proof

/-- The order of restriction, OPEN < SHADOW < NO_TX < BLOCKED (R31). -/
def attrRank : Attr → Nat
  | .openSky => 0
  | .shadow => 1
  | .noTx => 2
  | .blocked => 3

/-- The more restrictive of two attributes (R31). -/
def stricter (a b : Attr) : Attr := if attrRank a < attrRank b then b else a

/-- The effective record of a body and a survey record (R31). -/
def effectiveOf (b v : SectorRec) : SectorRec :=
  let attr := stricter b.attr v.attr
  { attr := attr
    height :=
      if attr ≠ .shadow then 0
      else if b.attr = .shadow ∧ v.attr = .shadow then max b.height v.height
      else if b.attr = .shadow then b.height
      else v.height }

/-- The record of sector `k` in the body layer. -/
def MapSettings.bodyRec (m : MapSettings) (k : Nat) : SectorRec := m.body.getD k {}

/-- The record of sector `k` in the survey layer. -/
def MapSettings.surveyRec (m : MapSettings) (k : Nat) : SectorRec := m.survey.getD k {}

/-- The effective record of sector `k` (R31). -/
def MapSettings.effective (m : MapSettings) (k : Nat) : SectorRec := effectiveOf (m.bodyRec k) (m.surveyRec k)

/-- The sector, 0 to 71, that holds a relative azimuth given as any whole number of cdeg (R30). -/
def sectorOf (x : Int) : Nat := (x / 500 % 72).toNat

/-- The stow sector (R31). -/
def MapSettings.stowSector (m : MapSettings) : Nat := sectorOf m.stowAzimuth

/-- The sector at a pan position: the one that contains (z + p) mod 36000 (R32). -/
def MapSettings.sectorAt (m : MapSettings) (p : Int) : Nat := sectorOf (m.stowAzimuth + p)

/-- The sector under the pan; there is none while the pan is unreferenced (R32). -/
def State.sectorUnderPan (s : State) : Option Nat :=
  if s.pos.pan.referenced then some (s.work.map.sectorAt s.pos.pan.position) else none

/-! ## Paths (R34) -/

/-- The slices of 500 cdeg that a move between two whole-cdeg coordinates enters, in order; slice `j` lies at 500j and belongs to
sector j mod 72. -/
def enteredSlices (x y : Int) : List Int :=
  if x ≤ y then (List.range (y / 500 - x / 500).toNat).map (fun (i : Nat) => x / 500 + 1 + (i : Int))
  else (List.range (x / 500 - y / 500).toNat).map (fun (i : Nat) => x / 500 - 1 - (i : Int))

/-- The sector a slice belongs to. -/
def sliceSector (j : Int) : Nat := (j % 72).toNat

/-- The entered list of a pan move (R34). -/
def MapSettings.entered (m : MapSettings) (pFrom pTo : Int) : List Nat :=
  (enteredSlices (m.stowAzimuth + pFrom) (m.stowAzimuth + pTo)).map sliceSector

/-- The first slice of effective attribute BLOCKED that a pan move enters. -/
def MapSettings.firstBlockedSlice (m : MapSettings) (pFrom pTo : Int) : Option Int :=
  (enteredSlices (m.stowAzimuth + pFrom) (m.stowAzimuth + pTo)).find?
    (fun j => decide ((m.effective (sliceSector j)).attr = .blocked))

/-- The first blocked sector of a pan move; the move is admissible when there is none (R34). -/
def MapSettings.firstBlocked (m : MapSettings) (pFrom pTo : Int) : Option Nat :=
  (m.firstBlockedSlice pFrom pTo).map sliceSector

/-! ## The end point of a jog (R37) -/

/-- The last position before the first effective BLOCKED sector toward the travel end, or the travel end (R37), with the blocking
sector where there is one. -/
def MapSettings.jogEnd (m : MapSettings) (p : Int) (positive : Bool) : Int × Option Nat :=
  if positive then
    match m.firstBlockedSlice p 20000 with
    | none => (20000, none)
    | some j => (500 * j - 1 - m.stowAzimuth, some (sliceSector j))
  else
    match m.firstBlockedSlice p (-20000) with
    | none => (-20000, none)
    | some j => (500 * j + 500 - m.stowAzimuth, some (sliceSector j))

/-! ## The choice among candidates (R12, R36) -/

/-- A candidate judged as a move from the present pan position. -/
def MapSettings.judge (m : MapSettings) (pan p : Int) : Candidate :=
  let b := m.firstBlocked pan p
  { position := p, pathLength := (p - pan).natAbs, admissible := b.isNone, firstBlocked := b, preferred := false }

/-- The order of R36: the shorter path, then nearer pan 0, then the negative one. -/
def candidateBefore (a b : Candidate) : Bool :=
  decide (a.pathLength < b.pathLength
    ∨ a.pathLength = b.pathLength ∧ (a.position.natAbs < b.position.natAbs
      ∨ a.position.natAbs = b.position.natAbs ∧ a.position < b.position))

/-- The first of a list of candidates in the order of R36. -/
def bestCandidate : List Candidate → Option Candidate
  | [] => none
  | c :: cs =>
    match bestCandidate cs with
    | none => some c
    | some d => if candidateBefore d c then some d else some c

/-- The candidates with the chosen one marked preferred, and the one that gives the pan target: the chosen one, or where none is
admissible the one the map names in its refusal (R12, R36). -/
def MapSettings.choose (m : MapSettings) (pan : Int) (ps : List Int) : List Candidate × Option Candidate :=
  let cs := ps.map (m.judge pan)
  match bestCandidate (cs.filter (fun c => c.admissible)) with
  | some c => (cs.map (fun d => { d with preferred := decide (d.position = c.position) }), some c)
  | none => (cs, bestCandidate cs)

/-! ## Writing a run of sectors (R42) -/

/-- Sector `k` lies in the run of `count` sectors from `first`, which passes from 71 to 0 (R42). -/
def inRun (first count k : Nat) : Bool := decide ((k + 72 - first) % 72 < count)

/-- A layer with the same record written into every sector of a run (R42). -/
def writeRun (first count : Nat) (r : SectorRec) (layer : List SectorRec) : List SectorRec :=
  layer.mapIdx (fun k x => if inRun first count k then r else x)

end Sys2Proof.Machine
end

