-- ==== Sys2Proof/Machine/Sensing.lean ====
section
/-! DEFINITION. The Sensing Front End's readings (R104 to R107): a filter's mean and what each channel forms from it. A reading is
formed again at every change of its filter or its settings, so it is a function of both. -/

namespace Sys2Proof.Machine

open Sys2Proof

/-- The sum of a filter's counts. -/
def filterSum (r : ChannelRec) : Nat := r.filter.sum

/-- The number of counts a filter holds. -/
def filterCount (r : ChannelRec) : Nat := r.filter.length

/-- A count joins the filter, and the oldest leaves a filter of 16 (R104). -/
def pushCount (r : ChannelRec) (c : Nat) : ChannelRec :=
  { filter := if r.filter.length < 16 then r.filter ++ [c] else r.filter.drop 1 ++ [c], latest := c }

/-- A filter's mean, truncated: absent while the filter is empty (R104). -/
def meanOf (r : ChannelRec) : Option Nat :=
  if r.filter = [] then none else some (filterSum r / filterCount r)

/-- A pitch or roll reading: (mean − zero) × gain / 1024, truncated and clamped to ±3000 (R105). -/
def angleReading (r : ChannelRec) (zeroAt gain : Nat) : Option Int :=
  if r.filter = [] then none
  else some (clampInt (-3000) 3000
    (truncDiv (((filterSum r : Int) - (zeroAt : Int) * (filterCount r : Int)) * (gain : Int)) (1024 * filterCount r)))

/-- The filtered pitch P (R105). -/
def State.pitchReading (s : State) : Option Int :=
  angleReading s.sense.pitch s.work.sense.pitchZero s.work.sense.pitchGain

/-- The filtered roll R (R105). -/
def State.rollReading (s : State) : Option Int :=
  angleReading s.sense.roll s.work.sense.rollZero s.work.sense.rollGain

/-- The supply reading: mean × scale / 4096, truncated, in dV (R106). -/
def State.supplyReading (s : State) : Option Nat :=
  if s.sense.supply.filter = [] then none
  else some (filterSum s.sense.supply * s.work.sense.supplyScale / (4096 * filterCount s.sense.supply))

/-- The supply full-scale reading: scale × 4095 / 4096, truncated (R106). -/
def supplyFullScale (scale : Nat) : Nat := scale * 4095 / 4096

/-- The window states (R107). -/
inductive WindowState where
  | below | inside | above
  deriving DecidableEq, Repr

/-- The window state of PITCH or ROLL (R107). -/
def angleWindow (reading : Option Int) (limit : Nat) : WindowState :=
  match reading with
  | none => .inside
  | some x => if x < -(limit : Int) then .below else if (limit : Int) < x then .above else .inside

/-- The window state of SUPPLY (R107). -/
def State.supplyWindow (s : State) : WindowState :=
  match s.supplyReading with
  | none => .inside
  | some x =>
    if x < s.work.sense.supplyLow then .below
    else if supplyFullScale s.work.sense.supplyScale ≤ x then .above
    else .inside

/-- The window state of LEVEL, judged on the latest count (R107). -/
def State.levelWindow (s : State) : WindowState :=
  if s.sense.level.filter = [] then .inside
  else if s.sense.level.latest < s.sense.levelFloor then .below
  else if s.sense.levelCeiling ≤ s.sense.level.latest then .above
  else .inside

/-- The gust set value SV (R113). -/
def gustSetValue (x : SenseSettings) : Nat := max 1 (ceilDiv (x.windLimit * x.gateLength) (x.windRun * 10))

/-- What the gust counter is loaded with at a gate start: SV, or 0 with the wind limit at 0 (R113). -/
def gustLoad (x : SenseSettings) : Nat := if x.windLimit = 0 then 0 else gustSetValue x

/-- A new gate starts (R113). -/
def State.startGate (s : State) : State :=
  { s with sense := { s.sense with gateElapsed := 0, pulses := 0, gust := gustLoad s.work.sense } }

/-- The presence of the DRIVE cause (R112). -/
def driveCause (l : Lines) : Bool := !l.brake.level || l.drive.level

/-- The presence of a cause formed from a contact at its polarity (R112). -/
def contactCause (p : Polarity) (closed : Bool) : Bool :=
  match p with
  | .faultOpen => !closed
  | .faultClosed => closed

end Sys2Proof.Machine
end

