-- ==== Sys2Proof/Machine/Trips.lean ====
section
/-! DEFINITION. The Trip Unit: the source cycle (R124 to R127), the combined action (R129), and the causes that the front end hands
it (R108, R109, R112). -/

namespace Sys2Proof.Machine

open Sys2Proof

/-! ## The source cycle -/

/-- A source takes its staged configuration into effect, if it has one (R132). -/
def takeStaged (r : SourceRec) : SourceRec :=
  match r.staged with
  | none => r
  | some c => { r with config := c, staged := none }

/-- The record of a source that goes to CLEAR: its timer stopped, its staged copy taken in, its axes forgotten (R126, R127, R132). -/
def toClear (r : SourceRec) : SourceRec :=
  { takeStaged r with state := .clear, timer := 0, timerMs := 0, axes := {} }

/-- A level cause appears at an enabled source (R124). -/
def appear (s : State) (n : Source) (r : SourceRec) : State :=
  match r.state with
  | .clear => (s.setSource n { r with state := .active }).raise .trip
  | .active => s.setSource n r
  | .releasing => s.setSource n { takeStaged r with state := .active, timer := 0, timerMs := 0 }
  | .latchedWait => s.setSource n { takeStaged r with state := .active }

/-- A level cause is released at an enabled source: the mode in effect after any staged configuration decides (R124). -/
def release (s : State) (n : Source) (r : SourceRec) : State :=
  match r.state with
  | .active =>
    let q := takeStaged r
    match q.config.mode with
    | .latched => s.setSource n { q with state := .latchedWait }
    | .selfClearing => s.setSource n { q with state := .releasing, timer := q.config.delay, timerMs := 0 }
  | _ => s.setSource n r

/-- The front end hands a level cause's presence: a change is an appearance or a release (R124); a disabled source only records it. -/
def State.setCause (s : State) (n : Source) (present : Bool) : State :=
  let r := s.trips.source n
  if r.cause = present then s
  else
    let q := { r with cause := present }
    if r.config.enabled then (if present then appear s n q else release s n q) else s.setSource n q

/-- A momentary cause is detected, for an axis or for the mast (R126). -/
def State.detect (s : State) (n : Source) (a : Option Axis) : State :=
  let r := s.trips.source n
  let q := { r with axes := match a with | none => r.axes | some x => r.axes.set x true }
  match r.state with
  | .clear => (s.setSource n { q with state := .latchedWait }).raise .trip
  | _ => s.setSource n q

/-- A release timer expires (R127). -/
def State.releaseExpires (s : State) (n : Source) : State :=
  let r := takeStaged (s.trips.source n)
  match r.config.mode with
  | .selfClearing => (s.setSource n (toClear r)).raise .trip
  | .latched => s.setSource n { r with state := .latchedWait, timer := 0, timerMs := 0 }

/-! ## The combined action (R129) -/

/-- A source contributes while it is enabled and not CLEAR (R122). -/
def contributes (r : SourceRec) : Bool := r.config.enabled && decide (r.state ≠ .clear)

/-- The more severe of two raising entries: STOP, LOWER, NONE (R129). -/
def worseRaising (a : Option RaisingChoice) (b : RaisingChoice) : Option RaisingChoice :=
  match a, b with
  | some .stop, _ => some .stop
  | _, .stop => some .stop
  | _, .lower => some .lower

/-- The more severe of two lowering entries: STOP, CONTINUE, NONE (R129). -/
def worseLowering (a : Option LoweringChoice) (b : LoweringChoice) : Option LoweringChoice :=
  match a, b with
  | some .stop, _ => some .stop
  | _, .stop => some .stop
  | _, .goOn => some .goOn

/-- The more severe of two positioner entries: HOLD, STOW, NONE (R129). -/
def worsePositioner (a b : PositionerChoice) : PositionerChoice :=
  match a, b with
  | .hold, _ => .hold
  | _, .hold => .hold
  | .stow, _ => .stow
  | .noAction, b => b

/-- A combined action with one more contributor (R129). -/
def combineWith (c : CombinedAction) (r : ActionRec) : CombinedAction :=
  { raising := worseRaising c.raising r.raising
    lowering := worseLowering c.lowering r.lowering
    rest := if c.rest = .lower then .lower else r.rest
    positioner := worsePositioner c.positioner r.positioner
    transmit := if c.transmit = .inhibit then .inhibit else r.transmit }

/-- The combined action over all contributing sources (R129). -/
def Trips.combined (t : Trips) : CombinedAction :=
  allSources.foldl (fun c n => if contributes (t.source n) then combineWith c (t.source n).config.action else c) {}

/-- The combined action that the unit publishes. -/
def State.action (s : State) : CombinedAction := s.trips.combined

/-- The combined positioner action is in force (R131). -/
def State.positionerInForce (s : State) : Bool := decide (s.action.positioner ≠ .noAction)

/-- The combined mast action is in force for a situation: its entry is STOP or LOWER (R131). -/
def State.mastInForce (s : State) : Situation → Bool
  | .raising => s.action.raising.isSome
  | .lowering => decide (s.action.lowering = some .stop)
  | .atRest => decide (s.action.rest = .lower)

/-! ## The causes of the front end -/

/-- The TILT cause is judged (R108). -/
def State.judgeTilt (s : State) : State :=
  let p := (s.pitchReading.getD 0).natAbs
  let r := (s.rollReading.getD 0).natAbs
  let limit := s.work.sense.tiltLimit
  if limit < p ∨ limit < r then s.setCause .tilt true
  else if p + 50 ≤ limit ∧ r + 50 ≤ limit then s.setCause .tilt false
  else s

/-- The SUPPLY cause is judged (R109). -/
def State.judgeSupply (s : State) : State :=
  match s.supplyReading with
  | none => s
  | some x =>
    if x < s.work.sense.supplyLow then s.setCause .supply true
    else if s.work.sense.supplyLow + 10 < x then s.setCause .supply false
    else s

/-- The four van-state causes are formed from the debounced lines (R112); a cause that does not change hands nothing on. -/
def State.judgeLines (s : State) : State :=
  (((s.setCause .estop s.lines.estop.level).setCause .drive (driveCause s.lines)).setCause .pressure
      (contactCause s.work.sense.pressurePolarity s.lines.pressure.level)).setCause .aux
    (contactCause s.work.sense.auxPolarity s.lines.aux.level)

end Sys2Proof.Machine
end

