-- ==== Sys2Proof/Machine/Axes.lean ====
section
/-! DEFINITION. The Positioner Controller's operations: transfers and moves (R56, R57), stops (R58), pending transfers (R60), index
edges and homing (R65 to R70), the stow (R71), jogs (R72, R73), holds (R74). -/

namespace Sys2Proof.Machine

open Sys2Proof

/-! ## Fixed figures (R51, R52) -/

/-- The in-position band (R52). -/
def band : Axis → Nat
  | .pan => 5
  | .tilt => 5
  | .pol => 50

/-- The low end of an axis's travel (R51). -/
def travelLow : Axis → Int
  | .pan => -20000
  | .tilt => -1000
  | .pol => -9500

/-- The high end of an axis's travel (R51). -/
def travelHigh : Axis → Int
  | .pan => 20000
  | .tilt => 4500
  | .pol => 9500

/-- The settable range of an axis's index position (R52). -/
def indexRange : Axis → Int × Int
  | .pan => (-250, 250)
  | .tilt => (-990, -910)
  | .pol => (-9000, 9000)

/-- The class speed of an axis at FULL (R52). -/
def fullSpeed : Axis → Nat
  | .pan => 600
  | .tilt => 300
  | .pol => 1000

/-- The eighths of the axis maximum that a class is (R52). -/
def classEighths : SlewClass → Nat
  | .full => 8
  | .threeQuarter => 6
  | .half => 4
  | .threeEighths => 3

/-- The speed at which the drive runs an axis, in 160ths of a cdeg/s, 0 while it is not driven (R52): a move at the class speed, a jog at
5% or 25% of it, a homing approach at 25% of it, and a search for the index edge at 10% of the maximum. The drive's slowing
near a target is its own. -/
def driveSpeed (a : Axis) (x : AxisRec) : Nat :=
  let unit := fullSpeed a * classEighths x.classInUse
  match x.motion with
  | .slewing => 20 * unit
  | .jogging => match x.jog with
    | some j => if j.fast then 5 * unit else unit
    | none => 0
  | .homing => match x.homing with
    | some h => if h.phase = .approach ∨ h.phase = .stowing then 5 * unit else 16 * fullSpeed a
    | none => 0
  | _ => 0

/-- The settle time, in ms (R52). -/
def settleMs : Nat := 200

/-- The stall time, in ms (R64). -/
def axisStallMs : Nat := 2000

/-- The jog dead-man, in ms (R72). -/
def deadmanMs : Nat := 500

/-- The stowed position of an axis (R71). -/
def stowedPosition : Axis → Int
  | .tilt => -1000
  | _ => 0

/-! ## Moves (R56, R57) -/

/-- The axis stands within its band of its active target (R57). -/
def inBand (a : Axis) (x : AxisRec) : Bool := decide ((x.position - x.target).natAbs ≤ band a)

/-- The record with the stall mark set at the present position and time, driven in a direction (R64). -/
def AxisRec.driven (x : AxisRec) (up : Bool) : AxisRec :=
  { x with driveUp := up, progress := 0, stallTimer := some axisStallMs }

/-- The record of an axis that runs in a motion state in a direction: the stall mark is set where it enters the state or reverses (R64). -/
def AxisRec.run (x : AxisRec) (m : Motion) (up : Bool) : AxisRec :=
  if x.motion = m ∧ x.driveUp = up then x else { x.driven up with motion := m }

/-- The record of an axis that begins or resumes its way to its active target: SETTLING inside the band, SLEWING outside (R56, R57). -/
def seekTarget (a : Axis) (x : AxisRec) : AxisRec :=
  if inBand a x then { x with motion := .settling, settleTimer := some settleMs, stallTimer := none }
  else { ({ x with motion := .slewing, settleTimer := none }).driven (decide (x.position < x.target)) with }

/-- A move starts or is redirected: the active target is replaced, the origin stamped, a jog or a homing ended (R54, R56). -/
def moveTo (a : Axis) (slew : SlewClass) (t : Int) (o : Owner) (x : AxisRec) : AxisRec :=
  seekTarget a { x with target := t, origin := o, ending := .arrived, jog := none, jogTimer := none, homing := none, classInUse := slew }

/-- An accepted transfer of a position to an axis by an owner (R56). -/
def State.startMove (s : State) (a : Axis) (t : Int) (o : Owner) : State :=
  s.setAxis a (moveTo a (s.axisSettings a).slewClass t o (s.axis a))

/-- The first check of R56 that a transfer fails: referenced, mast low, path (pan only). -/
def State.transferRefusal (s : State) (a : Axis) (t : Int) : Option Status :=
  if (s.axis a).referenced = false then some .unreferenced
  else if s.mastReady = false then some .lowMast
  else if a = .pan ∧ (s.work.map.firstBlocked (s.axis a).position t).isSome then some .blocked
  else none

/-- A PATH_BLOCKED violation of a pan move to a position that the map refuses (R35, R41). -/
def State.pathViolation (s : State) (t : Int) : State :=
  match s.work.map.firstBlocked s.pos.pan.position t with
  | some k => s.recordViolation .pathBlocked k s.pos.pan.position
  | none => s

/-- A PATH_BLOCKED violation where a refusal is for the map (R35). -/
def State.noteRefusal (s : State) (st : Status) (t : Int) : State := if st = .blocked then s.pathViolation t else s

/-- A pending transfer: the slot is emptied; a refusal writes REFUSED and raises ARRIVAL (R60). -/
def State.pendingTransfer (s : State) (a : Axis) : State :=
  match (s.axis a).slot with
  | none => s
  | some t =>
    let s := s.setAxis a { s.axis a with slot := none }
    match s.transferRefusal a t with
    | none => s.startMove a t .console
    | some st => ((s.noteRefusal st t).setAxis a { s.axis a with lastArrival := some .refused }).raise .arrival

/-- A full AT_REST slot is transferred when its axis stands in REST (R57, R59). -/
def State.atRestTransfer (s : State) (a : Axis) : State :=
  if (s.axis a).motion = .rest ∧ (s.axisSettings a).moment = .atRest then s.pendingTransfer a else s

/-! ## Stops and holds (R58, R74) -/

/-- The axis is in a state that a stop acts on (R58). -/
def moving (x : AxisRec) : Bool :=
  match x.motion with
  | .slewing | .settling | .jogging | .homing => true
  | _ => false

/-- The record of an axis that is brought to a stand and settles toward a last arrival status (R58). An unreferenced axis has no position to
take as its active target: it takes its relative count (DESIGN CHOICE, log entry 35). -/
def standing (x : AxisRec) (ending : Arrival) : AxisRec :=
  { x with
    motion := .settling, target := x.position, ending := ending, jog := none, jogTimer := none, homing := none
    settleTimer := some settleMs, stallTimer := none }

/-- A stop of an axis: REST, UNREF and HELD are not acted on (R58). -/
def State.stopAxis (s : State) (a : Axis) (ending : Arrival) : State :=
  if moving (s.axis a) then s.setAxis a (standing (s.axis a) ending) else s

/-- Pan and tilt are stopped (R155, R156). -/
def State.stopDish (s : State) : State := (s.stopAxis .pan .stopped).stopAxis .tilt .stopped

/-- The record of an axis that a trip HOLD takes (R74); the active target of an unreferenced one is as in `standing` (log entry 35). -/
def holdRec (x : AxisRec) : AxisRec :=
  { x with
    motion := .held, target := x.position, origin := .trip, ending := .held, jog := none, jogTimer := none, homing := none
    settleTimer := none, stallTimer := none }

/-- The record of an axis that leaves HELD other than into the stow: it settles with last arrival HELD (R74), its active target the position
that it has at the release (DESIGN CHOICE, log entry 42). -/
def unholdRec (x : AxisRec) : AxisRec := if x.motion = .held then standing x .held else x

/-! ## Stow (R71) -/

/-- The stow switch of pan or tilt is closed (R53). -/
def State.stowSwitch (s : State) : Axis → Bool
  | .pan => s.lines.panStow.level
  | .tilt => s.lines.tiltStow.level
  | .pol => false

/-- The direction in which an axis approaches its stow switch: the pan toward pan 0 from the side WRAP shows, the tilt down (R68, R69). -/
def State.approachUp (s : State) : Axis → Bool
  | .pan => !s.lines.wrap.level
  | _ => false

/-- One axis of an accepted STOW: by position when referenced, by its switch when not (R71). On its way to the switch the axis is in HOMING, in a
phase of its own (DESIGN CHOICE, log entry 47). -/
def State.stowAxis (s : State) (a : Axis) (o : Owner) : State :=
  let x := s.axis a
  if x.referenced then s.startMove a (stowedPosition a) o
  else if s.stowSwitch a then s.setAxis a { standing x .arrived with origin := o }
  else
    s.setAxis a
      { x.run .homing (s.approachUp a) with
        origin := o, ending := .arrived, jog := none, jogTimer := none, settleTimer := none
        homing := some { begunReferenced := false, phase := .stowing }
        classInUse := (s.axisSettings a).slewClass }

/-- The pan's path to pan 0 is barred, so that a STOW is refused BLOCKED as a whole (R71). -/
def State.stowBlocked (s : State) : Bool :=
  s.pos.pan.referenced && (s.work.map.firstBlocked s.pos.pan.position 0).isSome

/-- A STOW: refused BLOCKED with its violation, or both axes on their way (R71); the second part says whether it was accepted. -/
def State.stow (s : State) (o : Owner) : State × Bool :=
  if s.stowBlocked then (s.pathViolation 0, false) else ((s.stowAxis .pan o).stowAxis .tilt o, true)

/-! ## Homing (R67 to R70) -/

/-- The phase in which a homing begins (R68, R69). -/
def State.homePhase (s : State) : Axis → HomePhase
  | .pan => if s.lines.panStow.level then .seek else .approach
  | .tilt => if s.lines.tiltStow.level then .seek else .approach
  | .pol => if s.lines.polIndex.level then .outward else .seek

/-- The direction in which a homing begins (R68, R69). -/
def State.homeUp (s : State) : Axis → Bool
  | .pan => !s.lines.wrap.level
  | .tilt => s.lines.tiltStow.level
  | .pol => s.lines.polIndex.level

/-- The refusal of a HOME by the axis's state (R67). -/
def State.homeRefusal (s : State) (a : Axis) : Option Status :=
  match (s.axis a).motion with
  | .unref => none
  | .rest =>
    if a = .pan ∧ (s.work.map.firstBlocked (s.axis a).position (s.axisSettings a).indexPosition).isSome then some .blocked else none
  | _ => some .state

/-- An accepted HOME (R67). -/
def State.startHome (s : State) (a : Axis) (o : Owner) : State :=
  let x := s.axis a
  s.setAxis a
    (({ x with
        motion := .homing, origin := o, ending := .arrived, jog := none, jogTimer := none, settleTimer := none
        homing := some { begunReferenced := x.referenced, phase := s.homePhase a }
        classInUse := (s.axisSettings a).slewClass }).driven (s.homeUp a))

/-- The edge direction of a motion (R53). -/
def edgeOf (up : Bool) : Edge := if up then .rising else .falling

/-- The capturing edge of a homing, at a position captured while the axis moved in a direction: the axis is referenced, its position
is the index position at the edge, and it comes to a stand there (R70). -/
def State.capture (s : State) (a : Axis) (at_ : Int) (up : Bool) (h : Homing) : State :=
  let x := s.axis a
  let ix := (s.axisSettings a).indexPosition
  let record : Capture :=
    if h.begunReferenced then
      { outcome := .corrected, edge := edgeOf up, raw := some at_, correction := some (ix - at_) }
    else { outcome := .referenced, edge := edgeOf up, raw := none, correction := none }
  s.setAxis a
    (seekTarget a
      { x with
        referenced := true, position := ix + (x.position - at_), target := ix, ending := .arrived, homing := none
        capture := some record, classInUse := (s.axisSettings a).slewClass })

/-- A homing in progress goes on to a phase in a direction, with the slew class taken anew at the leg (R52, R68, R69). -/
def State.homeOn (s : State) (a : Axis) (phase : HomePhase) (up : Bool) : State :=
  let x := s.axis a
  match x.homing with
  | none => s
  | some h => s.setAxis a (({ x with homing := some { h with phase := phase }, classInUse := (s.axisSettings a).slewClass }).driven up)

/-- The stow switch of pan or tilt changes while the axis homes or stows by it (R68, R69, R71). -/
def State.homeSwitch (s : State) (a : Axis) (closed : Bool) : State :=
  let x := s.axis a
  match x.motion, x.homing with
  | .homing, some h =>
    match h.phase with
    | .stowing => if closed then s.stopAxis a .arrived else s
    | .approach =>
      if closed then
        s.setAxis a { x with homing := some { h with phase := .seek }, classInUse := (s.axisSettings a).slewClass }
      else s
    | .seek =>
      if closed then s
      else if a = .pan ∨ x.driveUp then s.homeOn a .reversed (!x.driveUp)
      else s
    | .reversed => if closed = false ∧ a = .pan then s.stopAxis a .stopped else s
    | .outward => s
  | _, _ => s

/-! ## Index edges (R65, R70) -/

/-- What an index edge makes of a homing axis: it captures, turns the pol back, or is not acted on (R68, R69). -/
def State.homeEdge (s : State) (a : Axis) (at_ : Int) (up : Bool) (asserted : Bool) (h : Homing) : State :=
  match h.phase, a with
  | .outward, .pol => if asserted then s else s.homeOn a .seek false
  | .seek, .pol => if asserted then s.capture a at_ up h else s
  | .seek, _ => s.capture a at_ up h
  | .reversed, _ => s.capture a at_ up h
  | _, _ => s

/-- An error of 20 cdeg or less corrects the position (R65). -/
def State.correctAt (s : State) (a : Axis) (at_ : Int) (up : Bool) : State :=
  let x := s.axis a
  let err := (s.axisSettings a).indexPosition - at_
  s.setAxis a
    { x with
      position := x.position + err
      capture := some { outcome := .corrected, edge := edgeOf up, raw := some at_, correction := some err } }

/-- The record of an axis that has slipped: unreferenced, with its capture record (R65). -/
def slippedRec (x : AxisRec) (at_ : Int) (up : Bool) : AxisRec :=
  { x with
    referenced := false
    capture := some { outcome := .slipped, edge := edgeOf up, raw := some at_, correction := none } }

/-! ## Jogs (R72) -/

/-- The end point of a jog of a referenced axis, with the sector that bars a pan (R37, R72). -/
def State.jogEndOf (s : State) (a : Axis) (positive : Bool) : Int × Option Nat :=
  match a with
  | .pan => s.work.map.jogEnd s.pos.pan.position positive
  | _ => (if positive then travelHigh a else travelLow a, none)

/-- The axis already stands at its travel end in the jog direction (R72), or beyond it (DESIGN CHOICE, log entry 41). -/
def atTravelEnd (a : Axis) (p : Int) (positive : Bool) : Bool :=
  if positive then decide (travelHigh a ≤ p) else decide (p ≤ travelLow a)

/-- An accepted JOG (R72). One that keeps a jogging axis going in its direction leaves the stall mark where it is (R64). -/
def State.startJog (s : State) (a : Axis) (positive fast : Bool) (endPoint : Option Int) : State :=
  s.setAxis a
    { (s.axis a).run .jogging positive with
      origin := .console, ending := .arrived, homing := none, settleTimer := none
      jog := some { positive := positive, fast := fast, endPoint := endPoint }
      jogTimer := some deadmanMs
      classInUse := (s.axisSettings a).slewClass }

/-- The jog has come to its end point (R73). -/
def atJogEnd (x : AxisRec) : Bool :=
  match x.jog with
  | some { positive := true, fast := _, endPoint := some e } => decide (e ≤ x.position)
  | some { positive := false, fast := _, endPoint := some e } => decide (x.position ≤ e)
  | _ => false

/-! ## One encoder count (R57, R64, R73) -/

/-- Progress is counted from the mark in the driven direction, and 10 cdeg of it set a new mark (R64). -/
def countProgress (x : AxisRec) (up : Bool) : AxisRec :=
  let p := x.progress + (if up = x.driveUp then 1 else -1)
  if 10 ≤ p then { x with progress := 0, stallTimer := some axisStallMs } else { x with progress := p }

/-- What a change of position makes of an axis: a SLEWING one may enter its band, or find its target behind it and reverse, a SETTLING one
leave its band, a jog reach its end point (R57, R64, R73). An unreferenced SETTLING axis that leaves its band stays in SETTLING, without a settle
time until it is back inside (DESIGN CHOICE, log entry 48). -/
def State.afterPosition (s : State) (a : Axis) : State :=
  let x := s.axis a
  match x.motion with
  | .slewing =>
    if inBand a x then s.setAxis a { x with motion := .settling, settleTimer := some settleMs, stallTimer := none }
    else s.setAxis a (x.run .slewing (decide (x.position < x.target)))
  | .settling =>
    if inBand a x then
      (if x.settleTimer.isSome then s else s.setAxis a { x with settleTimer := some settleMs })
    else if x.referenced then
      s.setAxis a ({ x with motion := .slewing, settleTimer := none }.driven (decide (x.position < x.target)))
    else s.setAxis a { x with settleTimer := none }
  | .jogging => if atJogEnd x then s.stopAxis a .arrived else s
  | _ => s

/-- The record after one count of the encoder (R51, R64). -/
def countRec (x : AxisRec) (up : Bool) : AxisRec :=
  let y := { x with position := x.position + (if up then 1 else -1), movedUp := up }
  match x.motion with
  | .slewing | .homing | .jogging => countProgress y up
  | _ => y

/-! ## The map under a move (R38) -/

/-- The end of the pan's remaining path, where it is judged against a changed map (R38). -/
def State.remainingEnd (s : State) : Option Int :=
  let x := s.pos.pan
  if x.referenced then
    match x.motion with
    | .slewing | .settling => some x.target
    | .jogging => match x.jog with | some j => j.endPoint | none => none
    | .homing => match x.homing with
      | some h => if h.begunReferenced then some (s.axisSettings .pan).indexPosition else none
      | none => none
    | _ => none
  else none

/-- A changed map is judged against the pan's move in flight: a barred move is stopped with a MAP_UNDER_MOVE violation (R38); a trip
stow stopped so has not run (R75). -/
def State.mapUnderMove (s : State) : State :=
  match s.remainingEnd with
  | none => s
  | some e =>
    match s.work.map.firstBlocked s.pos.pan.position e with
    | none => s
    | some k =>
      let s := s.stopAxis .pan .stopped
      let s := s.recordViolation .mapUnderMove k s.pos.pan.position
      if s.pos.stowAwaits.pan then { s with pos := { s.pos with stowUnrun := true } } else s

end Sys2Proof.Machine
end

