-- ==== Sys2Proof/Machine/Flags.lean ====
section
/-! DEFINITION. The flags that one block forms from the others' state: the permit conditions and the inhibit-reason set of the Transmit
Gate (R167 to R170), and which notices are eligible (R204). -/

namespace Sys2Proof.Machine

open Sys2Proof

/-! ## The permit conditions (R167 to R169) -/

/-- The inhibit-reason set (R170). -/
structure Reasons where
  trip : Bool
  mast : Bool
  axes : Bool
  stowed : Bool
  sector : Bool
  shadowLow : Bool
  deriving DecidableEq, Repr

/-- The set is empty. -/
def Reasons.isEmpty (r : Reasons) : Bool :=
  !r.trip && !r.mast && !r.axes && !r.stowed && !r.sector && !r.shadowLow

/-- A search of kind TRACK is running, as the gate is told (R154). -/
def State.trackSearching (s : State) : Bool := s.searching && decide (s.search.kind = some .track)

/-- An axis satisfies the fourth condition (R168). -/
def axisPermits (x : AxisRec) (tracking : Bool) : Bool :=
  x.referenced
    && (decide (x.motion = .rest)
      || (decide (x.motion = .slewing ∨ x.motion = .settling) && decide (x.origin = .search) && tracking))

/-- The effective record of the sector under the pan (R31, R32). -/
def State.recordUnderPan (s : State) : Option SectorRec := s.sectorUnderPan.map s.work.map.effective

/-- The sector under the pan is NO_TX or BLOCKED (R169). -/
def sectorForbids (r : Option SectorRec) : Bool :=
  match r with
  | some x => decide (x.attr = .noTx ∨ x.attr = .blocked)
  | none => false

/-- The sector under the pan is SHADOW and the pivot height lies below its height (R169). -/
def shadowForbids (r : Option SectorRec) (pivot : Nat) : Bool :=
  match r with
  | some x => decide (x.attr = .shadow) && decide (pivot < x.height)
  | none => false

/-- The inhibit-reason set (R170): one reason for each failing condition among the second to the sixth. -/
def State.reasons (s : State) : Reasons :=
  { trip := decide (s.action.transmit = .inhibit)
    mast := !decide (s.mast.state = .rest ∨ s.mast.state = .topping)
    axes := !(axisPermits s.pos.pan s.trackSearching && axisPermits s.pos.tilt s.trackSearching)
    stowed := s.lines.tiltStow.level
    sector := sectorForbids s.recordUnderPan
    shadowLow := shadowForbids s.recordUnderPan s.pivotHeight }

/-- The gate state that the request and the reason set give (R171). -/
def State.gateVerdict (s : State) : GateState :=
  if s.gate.request = false then .off else if s.reasons.isEmpty then .on else .wait

/-- The level of TX_PERMIT (R167). -/
def State.txPermit (s : State) : Bool := decide (s.gate.state = .on)

/-! ## Eligible notices (R204) -/

/-- The eight kinds in their priority order (R203). -/
def allNotices : List Notice := [.started, .trip, .violation, .txChange, .arrival, .searchDone, .sequence, .report]

/-- A kind is in a set of kinds. -/
def inKinds (v : BitVec 8) (k : Notice) : Bool := decide (v &&& k.bit ≠ 0)

/-- A kind is eligible: pending, unmasked, and hush off (R204). -/
def Notices.eligible (n : Notices) (k : Notice) : Bool := inKinds n.pending k && !inKinds n.masks k && !n.hush

/-- The eligible kind of highest priority (R198, R204). -/
def Notices.next (n : Notices) : Option Notice := allNotices.find? n.eligible

end Sys2Proof.Machine
end

