-- ==== Sys2Proof/Machine/GateOps.lean ====
section
/-! DEFINITION. The Transmit Gate's operations (R171 to R173). -/

namespace Sys2Proof.Machine

open Sys2Proof

/-- The gate forms its state anew; a change raises TX_CHANGE (R171). -/
def State.gateForm (s : State) : State :=
  let v := s.gateVerdict
  if v = s.gate.state then s else ({ s with gate := { s.gate with state := v } }).raise .txChange

/-- The request is set or cleared, and the gate forms its state (R173). -/
def State.setRequest (s : State) (on : Bool) : State :=
  if s.gate.request = on then s else ({ s with gate := { s.gate with request := on } }).gateForm

/-- The sector under the pan is one whose entry withdraws the permit: NO_TX, or SHADOW above the pivot height (R172). -/
def State.entryForbidden (s : State) : Bool :=
  match s.recordUnderPan with
  | some x => decide (x.attr = .noTx) || (decide (x.attr = .shadow) && decide (s.pivotHeight < x.height))
  | none => false

/-- The gate forms its state after one count of the pan: where it leaves TX_ON because the pan has entered a forbidden sector, a
TX_SECTOR violation is recorded (R172). `before` is the sector under the pan before the count. -/
def State.gateAfterPan (s : State) (before : Option Nat) : State :=
  let t := s.gateForm
  match s.sectorUnderPan with
  | some k =>
    if s.gate.state = .on ∧ t.gate.state ≠ .on ∧ before.isSome ∧ before ≠ some k ∧ s.entryForbidden = true then
      t.recordViolation .txSector k s.pos.pan.position
    else t
  | none => t

end Sys2Proof.Machine
end

