-- ==== Sys2Proof/Machine/MastOps.lean ====
section
/-! DEFINITION. The Mast Controller's operations: starting, pausing and ending a motion (R86 to R93), the nest switch (R82), a new
raise limit (R87), stops (R99), and the combined mast action (R95, R96). An operation that ends a move answers with the outcome
that it hands the Sequence Controller, if the move was the sequence's (R84). -/

namespace Sys2Proof.Machine

open Sys2Proof

/-! ## Figures -/

/-- The settle time of the mast, in ms (R91). -/
def mastSettleMs : Nat := 1000

/-- The stall time of the mast, in ms (R94). -/
def mastStallMs : Nat := 3000

/-- The stop count of a raise (R86). -/
def stopCountUp (target lead : Nat) : Nat := (target - lead) / 2

/-- The stop count of a lowering (R88). -/
def stopCountDown (target lead : Nat) : Nat := (target + lead) / 2

/-- The pause point, as a count, rounded up (R89). -/
def pauseCount (clearance lead : Nat) : Nat := (clearance + lead + 1) / 2

/-- The stop lead in use: that of the present lowering, or the setting (R88, R89). -/
def State.leadNow (s : State) : Nat :=
  match s.mast.state with
  | .lowering | .clearWait | .nudging => s.mast.leadInUse
  | _ => s.work.mast.stopLead

/-- The pause point (R89). -/
def State.pausePoint (s : State) : Nat := pauseCount s.work.mast.clearance s.leadNow

/-- The extension lies within the height tolerance of a height (R91). -/
def State.atHeight (s : State) (h : Nat) : Bool :=
  decide (s.extension ≤ h + s.work.mast.tolerance ∧ h ≤ s.extension + s.work.mast.tolerance)

/-! ## Situations (R83) -/

/-- The mast's situation: in HELD the one in which it was held (R83, R95). -/
def Mast.situation (m : Mast) : Situation :=
  match m.state with
  | .raising | .topping => .raising
  | .lowering | .clearWait => .lowering
  | .nudging => if m.nudgeUp then .raising else .lowering
  | .held => m.heldIn
  | _ => .atRest

/-! ## Parts of a motion -/

/-- The record of a mast that starts to wait for its counter to stand still, outputs off (R91). -/
def Mast.settle (m : Mast) (k : SettleKind) : Mast :=
  { m with
    state := .settling, compressor := false, vent := false, settleKind := k, settleTimer := some mastSettleMs, stallTimer := none }

/-- The record of a mast that is driven, with a fresh progress mark (R94): upward by COMPRESSOR, downward by VENT. -/
def Mast.drive (m : Mast) (st : MastState) (up : Bool) : Mast :=
  { m with
    state := st, compressor := up, vent := !up, settleTimer := none, stallTimer := some mastStallMs, progress := 0 }

/-- The record of a mast that stands in a state with its outputs off. -/
def Mast.stand (m : Mast) (st : MastState) : Mast :=
  { m with state := st, compressor := false, vent := false, settleTimer := none, stallTimer := none }

/-- The record of a mast paused in CLEAR_WAIT (R89). -/
def Mast.wait (m : Mast) (nudge : Bool) : Mast := { m.stand .clearWait with waitsForNudge := nudge }

/-- The notice of an owner who is told of each entry into and exit from CLEAR_WAIT (R128, R177). -/
def State.raiseWait (s : State) (o : MastOwner) : State :=
  match o with
  | .trip => s.raise .trip
  | .sequence => s.raise .sequence
  | .console => s

/-- A new mast record; an entry into or an exit from CLEAR_WAIT is told to the owner then in charge (R128, R178). An exit goes by the owner before
it, so the one that a trip STOP makes of a mast of another owner is not told to the trip (DESIGN CHOICE, log entry 51). -/
def State.putMast (s : State) (m : Mast) : State :=
  let t := { s with mast := m }
  if s.mast.state = .clearWait ∧ m.state ≠ .clearWait then t.raiseWait s.mast.owner
  else if s.mast.state ≠ .clearWait ∧ m.state = .clearWait then t.raiseWait m.owner
  else t

/-- The state in which a mast that has come to a stand ends (R82, R91, R99): the nest switch decides it after every settle, also after a top-up
and after a raise that a new limit has ended (DEDUCED, log entry 21). -/
def State.standState (s : State) : MastState :=
  if s.lines.nest.level then .nested else if s.mast.referenced then .rest else .unref

/-- A move ends: its outcome is written, and reported by the move origin (R84). -/
def State.endMove (s : State) (o : MastOutcome) : State × Option MastOutcome :=
  let t := { s with mast := { s.mast with outcome := some o } }
  if s.mast.origin = .sequence then (t, some o) else (t.raise .arrival, none)

/-! ## Raising (R86) -/

/-- A raise that would run from here is over: its stop count or the raise limit is reached (R86). -/
def State.raiseDone (s : State) (stop : Nat) : Bool := decide (stop ≤ s.mast.counter ∨ s.raiseLimit ≤ s.extension)

/-- A raise starts toward the mast's target, or ends at once (R86); `st` is RAISING, or TOPPING for a top-up (R93). -/
def State.startRaise (s : State) (st : MastState) (k : SettleKind) : State :=
  let lead := s.work.mast.stopLead
  let stop := stopCountUp s.mast.target lead
  let m := { s.mast with stopCount := stop, leadInUse := lead }
  s.putMast (if s.raiseDone stop then m.settle k else m.drive st true)

/-! ## Lowering (R88 to R90) -/

/-- The clearance rule bars a motion downward toward the mast's target at the pause point given (R89, R90). -/
def State.mustPause (s : State) (pause : Nat) : Bool :=
  !s.windowClosed
    && (!s.mast.referenced || (decide (s.mast.target < s.work.mast.clearance) && decide (s.mast.counter ≤ pause)))

/-- A lowering starts, or resumes from CLEAR_WAIT, toward the mast's target: it ends at once, waits, or opens VENT (R88 to R90). -/
def State.startLowering (s : State) : State :=
  let lead := s.work.mast.stopLead
  let stop := stopCountDown s.mast.target lead
  let m := { s.mast with stopCount := stop, leadInUse := lead }
  s.putMast
    (if 0 < s.mast.target ∧ s.mast.counter ≤ stop then m.settle .afterMove
     else if s.mustPause (pauseCount s.work.mast.clearance lead) then m.wait false
     else m.drive .lowering false)

/-- The lowering to the nest that a MAST_LOWER asks for, once its target is written: from CLEAR_WAIT it keeps waiting for the stow window,
wherever the pause point now lies (R98). -/
def State.lowerToNest (s : State) : State :=
  if s.mast.state = .clearWait ∧ s.windowClosed = false then
    let lead := s.work.mast.stopLead
    s.putMast ({ s.mast with stopCount := stopCountDown s.mast.target lead, leadInUse := lead }.wait false)
  else s.startLowering

/-! ## Nudges (R92) -/

/-- A nudge downward starts, or resumes from CLEAR_WAIT: it ends at once, waits, or opens VENT (R89, R92). -/
def State.startNudgeDown (s : State) : State :=
  let lead := s.work.mast.stopLead
  let m := { s.mast with nudgeUp := false, leadInUse := lead }
  s.putMast
    (if s.mast.counter ≤ s.mast.target / 2 then m.settle .afterMove
     else if s.mustPause (pauseCount s.work.mast.clearance lead) then m.wait true
     else m.drive .nudging false)

/-- A nudge upward starts (R92). -/
def State.startNudgeUp (s : State) : State := s.putMast ({ s.mast with nudgeUp := true }.drive .nudging true)

/-- The mast comes to a stand at its target, with an outcome (R91, R92). -/
def State.standWith (s : State) (o : MastOutcome) : State × Option MastOutcome :=
  (s.putMast (s.mast.stand s.standState)).endMove o

/-- A nudge in the direction of the target, or HEIGHT_OFF where none may start (R92). -/
def State.nudge (s : State) : State × Option MastOutcome :=
  if s.extension < s.mast.target then
    if s.action.raising.isSome ∨ s.raiseLimit ≤ s.extension then s.standWith .heightOff else (s.startNudgeUp, none)
  else if s.action.lowering = some .stop then s.standWith .heightOff
  else (s.startNudgeDown, none)

/-! ## The end of a settle (R87, R91) -/

/-- The mast has settled (R91). A stop takes the extension as the target, also where it lies above a raise limit that has fallen (DESIGN
CHOICE, log entry 36). Where a new raise limit has lowered the target during the settle, no nudge lowers the mast after it (R87; DEDUCED,
log entry 37). -/
def State.mastSettled (s : State) : State × Option MastOutcome :=
  match s.mast.settleKind with
  | .afterMove =>
    if s.atHeight s.mast.target then s.standWith .reached
    else if s.mast.nudges < 2 then ({ s with mast := { s.mast with nudges := s.mast.nudges + 1 } }).nudge
    else s.standWith .heightOff
  | .afterTopUp => (s.putMast (s.mast.stand s.standState), none)
  | .afterStop o => ({ s with mast := { s.mast with target := s.extension } }).standWith o
  | .afterLimit h => s.standWith (if s.atHeight h then .reached else .heightOff)
  | .afterLowered =>
    if s.atHeight s.mast.target then s.standWith .reached
    else if s.mast.nudges < 2 ∧ s.extension < s.mast.target then
      ({ s with mast := { s.mast with nudges := s.mast.nudges + 1 } }).nudge
    else s.standWith .heightOff

/-! ## The nest switch (R82) -/

/-- The end of a lowering at the nest: NESTED, with the outcome that the target gives, and a trip's mast back with the console
(R82, R96). -/
def State.endAtNest (s : State) : State × Option MastOutcome :=
  let r := (s.putMast (s.mast.stand .nested)).endMove
    (if s.mast.target ≤ s.work.mast.tolerance then .reached else .heightOff)
  (if s.mast.owner = .trip then { r.1 with mast := { r.1.mast with owner := .console } } else r.1, r.2)

/-- NEST closes (R82). -/
def State.nestCloses (s : State) : State × Option MastOutcome :=
  let changed := decide (s.mast.counter ≠ 0)
  let s := { s with mast := { s.mast with counter := 0, referenced := true } }
  match s.mast.state with
  | .lowering | .clearWait => s.endAtNest
  | .nudging => if s.mast.vent then s.endAtNest else (s, none)
  | .unref | .rest => (s.putMast (s.mast.stand .nested), none)
  | .settling =>
    (if changed then { s with mast := { s.mast with settleTimer := some mastSettleMs } } else s, none)
  | _ => (s, none)

/-- NEST opens (R82). -/
def State.nestOpens (s : State) : State :=
  if s.mast.state = .nested ∧ s.mast.compressor = false ∧ s.mast.vent = false then s.putMast (s.mast.stand .rest) else s

/-! ## What the mast does of its own accord at its present count, window and limit -/

/-- The sag watch of REST (R93). -/
def State.sagging (s : State) : Bool :=
  decide (s.extension + s.work.mast.sagAllowance < s.mast.target) && s.action.raising.isNone
    && decide (s.extension < s.raiseLimit) && s.mast.referenced

/-- The mast looks at its counter, the stow window and the raise limit: a motion may end or pause, a pause end, a sag start a
top-up (R86, R88, R89, R92, R93). A lowering to the nest that finds NEST closed already ends there with the counter as it stands (DESIGN
CHOICE, log entry 49). -/
def State.mastAdvance (s : State) : State × Option MastOutcome :=
  let m := s.mast
  match m.state with
  | .raising => if s.raiseDone m.stopCount then (s.putMast (m.settle .afterMove), none) else (s, none)
  | .topping => if s.raiseDone m.stopCount then (s.putMast (m.settle .afterTopUp), none) else (s, none)
  | .nudging =>
    if m.nudgeUp then
      if s.raiseDone (m.target / 2) then (s.putMast (m.settle .afterMove), none) else (s, none)
    else if m.counter ≤ m.target / 2 then (s.putMast (m.settle .afterMove), none)
    else if s.mustPause s.pausePoint then (s.putMast (m.wait true), none)
    else (s, none)
  | .lowering =>
    if m.target = 0 ∧ s.lines.nest.level = true then s.endAtNest
    else if 0 < m.target ∧ m.counter ≤ m.stopCount then (s.putMast (m.settle .afterMove), none)
    else if s.mustPause s.pausePoint then (s.putMast (m.wait false), none)
    else (s, none)
  | .clearWait =>
    if m.target = 0 ∧ m.waitsForNudge = false ∧ s.lines.nest.level = true then s.endAtNest
    else if s.windowClosed then (if m.waitsForNudge then s.startNudgeDown else s.startLowering, none)
    else (s, none)
  | .rest => if s.sagging then
      (({ s with mast := { m with origin := m.owner } }).startRaise .topping .afterTopUp, none)
    else (s, none)
  | _ => (s, none)

/-- The clearance height has been written: a mast in CLEAR_WAIT that the new pause point no longer bars resumes (R101). -/
def State.clearanceWritten (s : State) : State :=
  if s.mast.state = .clearWait ∧ s.mustPause s.pausePoint = false then
    (if s.mast.waitsForNudge then s.startNudgeDown else s.startLowering)
  else s

/-! ## A new raise limit (R87) -/

/-- The Sector Map hands the mast a raise limit that was `old` before (R33, R87). A lowering goes on toward a lowered target, with its stop
count formed anew by the lead that it read at its start (R88). A mast that settles after a move keeps its state, and is not lowered because
the limit has fallen (log entry 37); a downward nudge, driven or waiting in CLEAR_WAIT, is a lowering that goes on toward the lowered target
(DESIGN CHOICE, log entry 46). A target above the new limit is taken down to it even where the limit has risen, which R87's last sentence
would leave (a mast stopped above the limit; DESIGN CHOICE, log entry 36). A settle after a raise that a limit has ended is judged by that limit,
also where a second one lowers the target in it (DESIGN CHOICE, log entry 50). -/
def State.limitHanded (s : State) (old : Nat) : State :=
  let limit := s.raiseLimit
  if limit = old then s
  else
    let target := min s.mast.target limit
    let m := { s.mast with target := target }
    match m.situation, m.state with
    | .raising, .held => { s with mast := m }
    | .raising, st =>
      if limit ≤ s.extension then s.putMast (m.settle (.afterLimit limit))
      else if target = s.mast.target ∨ st = .nudging then { s with mast := m }
      else
        let m := { m with stopCount := stopCountUp target m.leadInUse }
        if m.stopCount ≤ m.counter then s.putMast (m.settle (if st = .topping then .afterTopUp else .afterMove))
        else { s with mast := m }
    | _, .lowering =>
      { s with mast := if target = s.mast.target then m else { m with stopCount := stopCountDown target m.leadInUse } }
    | _, .settling =>
      { s with mast :=
          if target ≠ s.mast.target ∧ m.settleKind = .afterMove then { m with settleKind := .afterLowered } else m }
    | _, _ => { s with mast := m }

/-! ## Stops (R99) -/

/-- The mast is stopped (R99): a motion or a wait is abandoned, a settle ends as a stop, and a standing or held mast is left. -/
def State.mastStop (s : State) : State :=
  match s.mast.state with
  | .raising | .lowering | .nudging | .topping | .clearWait => s.putMast (s.mast.settle (.afterStop .stopped))
  | .settling => { s with mast := { s.mast with settleKind := .afterStop .stopped } }
  | _ => s

/-! ## Moves that are asked for (R97, R98) -/

/-- The mast sets out for its target, once a MAST_TO has been answered (R97). -/
def State.mastSetsOut (s : State) : State :=
  if s.atHeight s.mast.target then s.putMast ({ s.mast with leadInUse := s.work.mast.stopLead }.settle .afterMove)
  else if s.extension < s.mast.target then s.startRaise .raising .afterMove
  else s.startLowering

/-- The part of an accepted MAST_TO that comes before its reply: a top-up ends, the target, the nudge count and the move origin are
written (R97). -/
def State.mastTakes (s : State) (h : Nat) (o : MastOwner) : State :=
  let m := { s.mast with target := h, nudges := 0, origin := o }
  { s with mast := if m.state = .topping then m.stand .rest else m }

/-- The part of an accepted MAST_LOWER that comes before its reply (R98). -/
def State.lowerTakes (s : State) (o : MastOwner) : State :=
  { s with mast := { s.mast with compressor := false, target := 0, nudges := 0, origin := o } }

/-- The situation that a move to a height would create: none within the tolerance of the present extension (R85, R97). An unreferenced mast
is judged by its counter's extension (DEDUCED, log entry 18). -/
def State.wouldBe (s : State) (h : Nat) : Option Situation :=
  if s.atHeight h then none else if s.extension < h then some .raising else some .lowering

/-- The checks of R85 for an owner, in their order: the combined mast action, the mast owner, and a search where `still` holds. R217 calls
the console's requests refused TRIPPED while DRIVE brings the mast down; where no entry of R85 bars them they are BUSY (R96; DESIGN CHOICE,
log entry 44). -/
def State.mastRefusal (s : State) (o : MastOwner) (next : Option Situation) (still : Bool) : Option Status :=
  if s.mastInForce s.mast.situation then some .tripped
  else if (match next with | some .raising => s.mastInForce .raising | some .lowering => s.mastInForce .lowering | _ => false) then
    some .tripped
  else if s.mast.owner ≠ o then some .busy
  else if still ∧ s.pos.owner = .search then some .busy
  else none

/-- The refusal of a MAST_TO by the mast's own state (R97). -/
def State.mastToRefusal (s : State) : Option Status :=
  if s.mast.referenced = false then some .unreferenced
  else match s.mast.state with
    | .nested | .rest | .topping => none
    | .unref => some .unreferenced
    | .held => some .tripped
    | _ => some .state

/-! ## The combined mast action (R95, R96) -/

/-- A trip STOP takes the mast to HELD (R95). -/
def State.holdMast (s : State) : State :=
  s.putMast { s.mast.stand .held with heldIn := s.mast.situation, owner := .trip, origin := .trip }

/-- A trip LOWER begins a lowering to the nest (R96). -/
def State.tripLower (s : State) : State :=
  let m := { s.mast with compressor := false, owner := .trip, target := 0, nudges := 0, origin := .trip }
  ({ s with mast := m }).startLowering

/-- The settle that follows a hold (R95). -/
def Mast.afterHold (m : Mast) : Bool := decide (m.state = .settling ∧ m.settleKind = .afterStop .held)

/-- The mast reads the entry of the combined action for its situation (R95, R96). -/
def State.mastEnact (s : State) : State :=
  match s.mast.state, s.mast.situation with
  | .held, c =>
    if s.mastInForce c ∧ ¬ (c = .raising ∧ s.action.raising = some .lower) then s
    else s.putMast { s.mast.settle (.afterStop .held) with owner := .console }
  | _, .raising =>
    match s.action.raising with
    | some .stop => s.holdMast
    | some .lower => s.tripLower
    | none => s
  | _, .lowering => if s.action.lowering = some .stop then s.holdMast else s
  | .nested, .atRest => s
  | _, .atRest => if s.action.rest = .lower ∧ s.mast.afterHold = false then s.tripLower else s

end Sys2Proof.Machine
end

