-- ==== Sys2Proof/Machine/Trig.lean ====
section
/-! DEFINITION. The functions of the solution arithmetic: the square root of R18 and the rounded trigonometric factors and angles of
R14, R16, R19, R20 and R21. They are computed in fixed point on whole multiples of 2^-120, with an error far below the spacing
at which the manual rounds: log entry 6. -/

namespace Sys2Proof.Machine

/-- The unit of the fixed point: 2^120. -/
def fxOne : Nat := 1329227995784915872903807060280344576

/-- π in fixed point, rounded. -/
def fxPi : Nat := 4175892906503776358826876457663557747

/-! ## Square roots -/

/-- The greatest `r` below `acc + 2^bits` with `r * r ≤ n`, found bit by bit. -/
def sqrtBits (n : Nat) : (bits : Nat) → (acc : Nat) → Nat
  | 0, acc => acc
  | b + 1, acc => sqrtBits n b (if (acc + 2 ^ b) * (acc + 2 ^ b) ≤ n then acc + 2 ^ b else acc)

/-- The square root rounded to a whole number (R18): no root of a whole number falls on a half. -/
def roundSqrt (n : Nat) : Nat :=
  let r := sqrtBits n 40 0
  if r < n - r * r then r + 1 else r

/-- Newton's iteration for the square root of `n` from above. -/
def newtonSqrt (n : Nat) : (fuel : Nat) → (x : Nat) → Nat
  | 0, x => x
  | f + 1, x => newtonSqrt n f ((x + n / x) / 2)

/-! ## Sine and cosine -/

/-- The alternating series `t - t x²/(k(k+1)) + …` in fixed point: the sine's for `k = 2`, `t = x`, the cosine's for `k = 1`, `t = 1`. -/
def trigSeries (x2 : Nat) : (fuel : Nat) → (k : Nat) → (t : Nat) → Nat
  | 0, _, _ => 0
  | f + 1, k, t => t - trigSeries x2 f (k + 2) (t * x2 / fxOne / (k * (k + 1)))

/-- The sine and the cosine, in fixed point, of `r / den` degrees, from 0 to 45. -/
def sinCosOctant (r den : Nat) : Nat × Nat :=
  let x := r * fxPi / (180 * den)
  let x2 := x * x / fxOne
  (trigSeries x2 18 2 x, trigSeries x2 18 1 fxOne)

/-- The sine and the cosine, in fixed point, of `r / den` degrees, from 0 to 90. -/
def sinCosQuadrant (r den : Nat) : Nat × Nat :=
  if 2 * r ≤ 90 * den then sinCosOctant r den
  else
    let sc := sinCosOctant (90 * den - r) den
    (sc.2, sc.1)

/-- The sine and the cosine, in fixed point, of `num / den` degrees. -/
def sinCos (num : Int) (den : Nat) : Int × Int :=
  let a := (num % (360 * den : Nat)).toNat
  let sc := sinCosQuadrant (a % (90 * den)) den
  match a / (90 * den) with
  | 0 => (sc.1, sc.2)
  | 1 => (sc.2, -(sc.1 : Int))
  | 2 => (-(sc.1 : Int), -(sc.2 : Int))
  | _ => (-(sc.2 : Int), sc.1)

/-- The sine factor of `num / den` degrees: round(65536 · sin) (R14). -/
def sinFactor (num : Int) (den : Nat) : Int := roundDiv (65536 * (sinCos num den).1) fxOne

/-- The cosine factor of `num / den` degrees: round(65536 · cos) (R14). -/
def cosFactor (num : Int) (den : Nat) : Int := roundDiv (65536 * (sinCos num den).2) fxOne

/-! ## Arc tangent -/

/-- The tangent of half the angle whose tangent is `t`, in fixed point. -/
def halfTangent (t : Nat) : Nat := t * fxOne / (fxOne + newtonSqrt (fxOne * fxOne + t * t) 10 (2 * fxOne))

/-- The alternating series `p/k - p u²/(k+2) + …` of the arc tangent, in fixed point. -/
def atanSeries (u2 : Nat) : (fuel : Nat) → (k : Nat) → (p : Nat) → Nat
  | 0, _, _ => 0
  | f + 1, k, p => p / k - atanSeries u2 f (k + 2) (p * u2 / fxOne)

/-- The arc tangent, in fixed point radians, of a `t` from 0 to 1: eight times that of the tangent halved three times. -/
def atanUnit (t : Nat) : Nat :=
  let u := halfTangent (halfTangent (halfTangent t))
  8 * atanSeries (u * u / fxOne) 20 1 u

/-- The angle, in fixed point cdeg from 0 to 9000, whose tangent is `y / x`, for `y` and `x` not both 0. -/
def angleOf (y x : Nat) : Nat :=
  if y ≤ x then atanUnit (y * fxOne / x) * (18000 * fxOne) / fxPi
  else 9000 * fxOne - atanUnit (x * fxOne / y) * (18000 * fxOne) / fxPi

/-- A fixed point number rounded to a whole one (R14). -/
def fxRound (x : Nat) : Nat := (2 * x + fxOne) / (2 * fxOne)

/-- The true bearing of R19: atan2(east, north) in cdeg from 0 to 35999. -/
def bearingOf (east north : Int) : Nat :=
  let a := angleOf east.natAbs north.natAbs
  let b :=
    if 0 ≤ east then (if 0 ≤ north then a else 18000 * fxOne - a)
    else if north < 0 then 18000 * fxOne + a
    else 36000 * fxOne - a
  fxRound b % 36000

/-- The true elevation of R20: atan(rise / run) in cdeg, for a positive run. -/
def elevationOf (rise : Int) (run : Nat) : Int :=
  let a : Int := fxRound (angleOf rise.natAbs run)
  if rise < 0 then -a else a

end Sys2Proof.Machine
end

