-- ==== Sys2Proof/Machine/Solver.lean ====
section
/-! DEFINITION. The Aiming Solver's arithmetic: the eight stages of R15 to R24, and the raw solution of R25. -/

namespace Sys2Proof.Machine

open Sys2Proof

/-- A difference of longitudes brought the short way round, into [−1,800,000,000, 1,800,000,000) (R16). -/
def shortWay (d : Int) : Int :=
  if 1800000000 ≤ d then d - 3600000000 else if d < -1800000000 then d + 3600000000 else d

/-- Stages 1 and 2: the north and the east distance, in metres, from one point to another (R16, R17). -/
def localPlane (lat0 lon0 lat1 lon1 : Int) : Int × Int :=
  let c := cosFactor (truncDiv (lat1 + lat0) 2) 10000000
  (roundDiv ((lat1 - lat0) * 111195) 10000000,
   roundDiv (shortWay (lon1 - lon0) * 111195 * c) (10000000 * 65536))

/-- The inputs that a computation reads once, at its moment (R15). -/
structure SolveInputs where
  fix : Option Fix
  site : Option Site
  siteNumber : Nat
  extension : Nat
  stowedPivot : Nat
  pitch : Int
  roll : Int
  map : MapSettings
  pan : Int
  pol : Int

/-- The inputs of a computation for a site at an extension (R15): 0 for an absent pitch or roll and for an unreferenced axis. -/
def State.solveInputs (s : State) (n ext : Nat) : SolveInputs :=
  { fix := s.fix
    site := s.site? n
    siteNumber := n
    extension := ext
    stowedPivot := s.work.mast.stowedPivot
    pitch := s.pitchReading.getD 0
    roll := s.rollReading.getD 0
    map := s.work.map
    pan := if s.pos.pan.referenced then s.pos.pan.position else 0
    pol := if s.pos.pol.referenced then s.pos.pol.position else 0 }

/-- The part of the solution record that a refused computation holds: the site, the fix number used and the extension used (R15). -/
def solutionHead (i : SolveInputs) : Solution :=
  { site := i.siteNumber
    fixNumber := match i.fix with | none => 0 | some f => f.number
    extension := i.extension }

/-- Stages 3 to 6 (R18 to R21) on a fix and a site record whose distances are `n` and `e`; the distance is in range. -/
def stagesFrom (i : SolveInputs) (f : Fix) (r : Site) (n e : Int) (d : Nat) : Solution :=
  let b := bearingOf e n
  let pivot : Int := f.alt * 100 + i.stowedPivot + i.extension
  let rise : Int := r.alt * 100 - pivot - roundDiv ((d * d : Nat) : Int) 17000
  let elevation := elevationOf rise (1000 * d)
  let azimuth : Nat := (((b : Int) - f.heading) % 36000).toNat
  let cs := cosFactor azimuth 100
  let sn := sinFactor azimuth 100
  { solutionHead i with
    status := .valid
    north := n
    east := e
    distance := d
    bearing := b
    elevation := elevation
    azimuth := azimuth
    vanElevation := roundDiv (65536 * elevation - i.pitch * cs + i.roll * sn) 65536
    polarisation := (roundDiv (65536 * (r.pol : Int) - i.roll * cs - i.pitch * sn) 65536 % 18000).toNat }

/-- The checks of R15 and stages 1 to 6: the record as far as they reach. -/
def geometry (i : SolveInputs) : Solution :=
  match i.fix with
  | none => { solutionHead i with status := .noFix }
  | some f =>
    if f.headingPresent = false then { solutionHead i with status := .noFix }
    else
      match i.site with
      | none => { solutionHead i with status := .noSite }
      | some r =>
        if 800000000 < f.lat.natAbs ∨ 800000000 < r.lat.natAbs then
          { solutionHead i with status := .geometry, detail := some .latitude }
        else
          let ne := localPlane f.lat f.lon r.lat r.lon
          let d := roundSqrt (ne.1 * ne.1 + ne.2 * ne.2).natAbs
          if d < 100 then
            { solutionHead i with status := .geometry, detail := some .tooNear, north := ne.1, east := ne.2, distance := d }
          else if 150000 < d then
            { solutionHead i with status := .geometry, detail := some .tooFar, north := ne.1, east := ne.2, distance := d }
          else stagesFrom i f r ne.1 ne.2 d

/-- Stage 7's condition: the learned-at point lies within ±100 m of the fix, north and east (R22). -/
def nearLearned (f : Fix) (g : Learned) : Bool :=
  let ne := localPlane f.lat f.lon g.lat g.lon
  decide (ne.1.natAbs ≤ 100 ∧ ne.2.natAbs ≤ 100)

/-- The learned-offset group that stage 7 applies, if any (R22). -/
def appliedOffset (i : SolveInputs) : Option Learned :=
  match i.fix, i.site with
  | some f, some r =>
    match r.learned with
    | some g => if nearLearned f g then some g else none
    | none => none
  | _, _ => none

/-- The pan positions that reach a relative azimuth, in ascending order (R24, steps 1 and 2). -/
def panPositions (azimuth stow : Nat) : List Int :=
  let d := ((azimuth : Int) - stow) % 36000
  let p := if 18000 ≤ d then d - 36000 else d
  [p - 36000, p, p + 36000].filter (fun q => decide (-20000 ≤ q ∧ q ≤ 20000))

/-- The pol target for a polarisation target from a present pol position (R23). -/
def polTargetOf (t : Nat) (pol : Int) : Int :=
  let hi : Int := t
  let lo : Int := (t : Int) - 18000
  if 9500 < hi then lo
  else if lo < -9500 then hi
  else if (lo - pol).natAbs < (hi - pol).natAbs then lo
  else hi

/-- Stages 7 and 8 on a VALID record (R22 to R24). -/
def finishSolution (i : SolveInputs) (q : Solution) : Solution :=
  let g := appliedOffset i
  let azimuth : Nat := match g with | none => q.azimuth | some g => (((q.azimuth : Int) + g.pan) % 36000).toNat
  let elevation : Int := match g with | none => q.vanElevation | some g => q.vanElevation + g.tilt
  let chosen := i.map.choose i.pan (panPositions azimuth i.map.stowAzimuth)
  { q with
    offsetsApplied := g.isSome
    tiltTarget := clampInt (-500) 4500 elevation
    tiltClamped := decide (clampInt (-500) 4500 elevation ≠ elevation)
    polTarget := polTargetOf q.polarisation i.pol
    candidates := chosen.1
    panTarget := match chosen.2 with | none => 0 | some c => c.position }

/-- The solution of R15 to R24. -/
def solve (i : SolveInputs) : Solution :=
  let q := geometry i
  if q.status = .valid then finishSolution i q else q

/-- A solution with an admissible candidate, marked preferred (R12). -/
def Solution.hasPreferred (q : Solution) : Bool := q.candidates.any (fun c => c.preferred)

/-- The first blocked sector on the path to the pan target (R12, R27). -/
def Solution.blockedSector (q : Solution) : Nat :=
  match q.candidates.find? (fun c => decide (c.position = q.panTarget)) with
  | some c => c.firstBlocked.getD 0
  | none => 0

/-- The status of a refused computation (R11, R26). -/
def solutionRefusal (q : Solution) : Status :=
  match q.status with
  | .noSite => .noSite
  | .geometry => .geometry
  | _ => .noFix

/-- The raw solution of R25: the raw pan and tilt, or the status of the refusal. Stage 7 is omitted and the map is not asked. -/
def rawSolution (i : SolveInputs) : Except SolutionStatus (Int × Int) :=
  let q := geometry i
  if q.status = .valid then
    let order : Int → Candidate := fun p =>
      { position := p, pathLength := (p - i.pan).natAbs, admissible := true, firstBlocked := none, preferred := false }
    let pan := match bestCandidate ((panPositions q.azimuth i.map.stowAzimuth).map order) with
      | none => 0
      | some c => c.position
    .ok (pan, clampInt (-500) 4500 q.vanElevation)
  else .error q.status

end Sys2Proof.Machine
end

