-- ==== Sys2Proof/Machine/SearchOps.lean ====
section
/-! DEFINITION. The Peak Search Engine's procedure: the start (R143 to R145), measuring (R146, R147), probing (R148 to R151), the
finish (R152, R153), the early ends (R155, R156) and tracking (R158, R164). Who is told of an end is decided where these operations
are used. -/

namespace Sys2Proof.Machine

open Sys2Proof

/-! ## The start -/

/-- The stored profile of a kind (R142). -/
def State.profileOf (s : State) : SearchKind → Profile
  | .acquire => s.work.acquire
  | .track => s.work.track

/-- The measurements of a search record as a start writes them (R144, R145). -/
def State.freshSearch (s : State) (kind : SearchKind) (origin : SearchOrigin) (beacon : Nat) : Search :=
  { s.search with
    state := .idle, kind := some kind, origin := some origin, beaconSite := some beacon, profile := s.profileOf kind
    startPan := s.pos.pan.position, startTilt := s.pos.tilt.position
    centrePan := s.pos.pan.position, centreTilt := s.pos.tilt.position
    step := (s.profileOf kind).initialStep, measured := 0, probes := [{}, {}, {}, {}], final := none, stored := false
    probeAt := 0, measuring := .idle, dwellTimer := none }

/-- A search starts (R144): the record, the owner SEARCH, the LEVEL window, and the dwell of the centre measurement. -/
def State.beginSearch (s : State) (kind : SearchKind) (origin : SearchOrigin) (site : Site) (raw : Option (Int × Int)) : State :=
  let q := s.freshSearch kind origin site.number
  let t := { s with pos := s.pos.emptySlots }.setOwner .search
  { t with
    sense := { t.sense with levelFloor := site.beaconFloor, levelCeiling := site.beaconCeiling }
    search :=
      { q with
        state := .measureCentre, ownerBefore := some s.pos.owner, raw := raw, centreLevel := 0
        measuring := .dwelling, dwellTimer := some q.profile.dwell } }

/-- A search whose raw solution is refused ends at once (R145). -/
def State.refusedSearch (s : State) (kind : SearchKind) (n : Nat) (final : FinalStatus) : State :=
  ({ s with search := { s.freshSearch kind (.site n) n with final := some final } }).raise .searchDone

/-- The final status and the reply status that a refused raw solution gives (R145). -/
def rawRefusal : SolutionStatus → FinalStatus × Status
  | .noSite => (.noSite, .noSite)
  | .geometry => (.geometry, .geometry)
  | _ => (.noFix, .noFix)

/-- Checks 2 to 7 of R143, for the owner that the issuer must be. -/
def State.searchRefusal (s : State) (need : Owner) (n : Nat) : Option Status :=
  if s.positionerInForce then some .tripped
  else if s.pos.owner ≠ need then some .busy
  else if s.pos.pan.referenced = false ∨ s.pos.tilt.referenced = false then some .unreferenced
  else if s.pos.pan.motion ≠ .rest ∨ s.pos.tilt.motion ≠ .rest ∨ s.mast.state ≠ .rest then some .state
  else if s.mastReady = false then some .lowMast
  else if (s.site? n).isNone then some .noSite
  else none

/-- A search that has passed its checks starts, or ends at once where its raw solution is refused (R143, step 8; R144; R145); the
status is the reply's. -/
def State.startSearch (s : State) (kind : SearchKind) (origin : SearchOrigin) (n : Nat) : State × Status :=
  match s.site? n with
  | none => (s, .noSite)
  | some r =>
    match origin with
    | .here => (s.beginSearch kind .here r none, .ok)
    | .site _ =>
      match rawSolution (s.solveInputs n s.extension) with
      | .ok raw => (s.beginSearch kind (.site n) r (some raw), .ok)
      | .error e => (s.refusedSearch kind n (rawRefusal e).1, (rawRefusal e).2)

/-! ## The end (R153) -/

/-- A learned-offset group goes into the record of a site (R3). -/
def writeLearned (n : Nat) (g : Learned) : List Site → List Site :=
  List.map (fun r => if r.number = n then { r with learned := some g } else r)

/-- The offset that a finished search hands the Site Table (R153, step 1), if the table makes the write (R3). -/
def State.offsetWrite (s : State) (final : FinalStatus) : Option (Nat × Learned) :=
  match s.search.origin, s.search.raw, s.fix with
  | some (.site n), some raw, some f =>
    let pan := s.search.centrePan - raw.1
    let tilt := s.search.centreTilt - raw.2
    if (final = .converged ∨ final = .budgetSpent) ∧ pan.natAbs ≤ 500 ∧ tilt.natAbs ≤ 500 ∧ (s.site? n).isSome then
      some (n, { pan := pan, tilt := tilt, lat := f.lat, lon := f.lon })
    else none
  | _, _, _ => none

/-- A search ends with a final status (R153): the offset, the record, the owner before, the notice. A positioner that a trip has taken
keeps its owner. -/
def State.endSearch (s : State) (final : FinalStatus) : State :=
  let w := s.offsetWrite final
  let t : State :=
    { s with
      sites := match w with | none => s.sites | some (n, g) => writeLearned n g s.sites
      search := { s.search with
        state := .idle, final := some final, stored := w.isSome, measuring := .idle, dwellTimer := none } }
  let t := if t.pos.owner = .trip then t else t.setOwner (s.search.ownerBefore.getD .console)
  t.raise .searchDone

/-- A running search is ended early, pan and tilt stopped (R155, R156). -/
def State.cutSearch (s : State) (final : FinalStatus) : State := s.stopDish.endSearch final

/-! ## Measuring (R146, R147) -/

/-- Pan and tilt stand in REST. -/
def State.dishAtRest (s : State) : Bool := decide (s.pos.pan.motion = .rest ∧ s.pos.tilt.motion = .rest)

/-- The dwell begins (R147). -/
def State.beginDwell (s : State) : State :=
  { s with search := { s.search with measuring := .dwelling, dwellTimer := some s.search.profile.dwell } }

/-- The first refusal of the transfers that bring pan and tilt to a position (R146), with the position refused. -/
def State.moveRefusal (s : State) (pan tilt : Int) : Option Status :=
  match (if s.pos.pan.target = pan then none else s.transferRefusal .pan pan) with
  | some st => some st
  | none => if s.pos.tilt.target = tilt then none else s.transferRefusal .tilt tilt

/-- The transfers that bring pan and tilt to a position, made together; an axis whose target it is already is not touched (R146). -/
def State.moveDish (s : State) (pan tilt : Int) : State :=
  let s := if s.pos.pan.target = pan then s else s.startMove .pan pan .search
  if s.pos.tilt.target = tilt then s else s.startMove .tilt tilt .search

/-- The engine goes to a position to measure there, or ends ABORTED where a transfer is refused (R146, R156); neither transfer is made where one
is refused (DESIGN CHOICE, log entry 45). -/
def State.goMeasure (s : State) (pan tilt : Int) : State :=
  match s.moveRefusal pan tilt with
  | some _ => s.cutSearch .aborted
  | none =>
    let t := s.moveDish pan tilt
    if t.dishAtRest then t.beginDwell
    else { t with search := { t.search with measuring := .moving, dwellTimer := none } }

/-- The engine goes back to the centre, or ends ABORTED where a transfer is refused (R152). Both transfers are checked before either is made,
so a refusal of one leaves the other axis untouched (DESIGN CHOICE, log entry 45). -/
def State.goCentre (s : State) (final : FinalStatus) : State :=
  let s := { s with search := { s.search with state := .finishing, final := some final, measuring := .idle, dwellTimer := none } }
  match s.moveRefusal s.search.centrePan s.search.centreTilt with
  | some st => (s.noteRefusal st s.search.centrePan).cutSearch .aborted
  | none =>
    let t := s.moveDish s.search.centrePan s.search.centreTilt
    if t.dishAtRest then t.endSearch final
    else { t with search := { t.search with measuring := .moving } }

/-! ## Probing (R149 to R151) -/

/-- The four probes of a round (R149). -/
def roundOf (pan tilt : Int) (step : Nat) : List Probe :=
  [{ pan := pan + step, tilt := tilt }, { pan := pan - step, tilt := tilt },
   { pan := pan, tilt := tilt + step }, { pan := pan, tilt := tilt - step }]

/-- The record with a new round about its centre at its step (R149). -/
def Search.newRound (q : Search) : Search :=
  { q with probes := roundOf q.centrePan q.centreTilt q.step, probeAt := 0, measuring := .idle, dwellTimer := none }

/-- The probe at a place of the list. -/
def Search.probe (q : Search) (k : Nat) : Probe := q.probes.getD k {}

/-- The record with an outcome in the entry the engine is at. -/
def Search.mark (q : Search) (o : ProbeOutcome) : Search :=
  { q with probes := q.probes.set q.probeAt { q.probe q.probeAt with outcome := o } }

/-- The outcome that an entry is skipped with, if it is (R149). -/
def State.skipOf (s : State) (p : Probe) : Option ProbeOutcome :=
  if s.search.profile.radius < (p.pan - s.search.startPan).natAbs ∨ s.search.profile.radius < (p.tilt - s.search.startTilt).natAbs then
    some .skippedRadius
  else if p.pan < -20000 ∨ 20000 < p.pan ∨ p.tilt < -500 ∨ 4500 < p.tilt then some .skippedTravel
  else if (s.work.map.firstBlocked s.pos.pan.position p.pan).isSome then some .skippedMap
  else none

/-- The best probe of a list: the highest level, the earliest of equals (R151). -/
def bestProbe : List Probe → Option (Nat × Probe)
  | [] => none
  | p :: ps =>
    match p.outcome, bestProbe ps with
    | .level v, some (w, q) => if v < w then some (w, q) else some (v, p)
    | .level v, none => some (v, p)
    | _, r => r

/-- What the judgement of a round finds (R151): a better centre, a halved step, or convergence. -/
inductive Judgement where
  | centre (level : Nat) (p : Probe)
  | halve (step : Nat)
  | converged
  deriving DecidableEq, Repr

/-- A whole round is judged (R151). -/
def Search.judge (q : Search) : Judgement :=
  let step := q.step / 2
  let narrower : Judgement := if step < q.profile.minStep then .converged else .halve step
  match bestProbe q.probes with
  | some (v, p) => if q.centreLevel + q.profile.margin < v then .centre v p else narrower
  | none => narrower

/-- The engine turns to the next entry, and after the fourth judges the round, until a probe is to be measured or the search finishes
(R149, R151). Each turn takes one unit of `fuel`; a search from a start never spends 64 of them between two measurements, since a
round without a measurement halves the step. -/
def State.takeTurns : Nat → State → State
  | 0, s => s
  | fuel + 1, s =>
    let q := s.search
    if q.probeAt < 4 then
      let p := q.probe q.probeAt
      match s.skipOf p with
      | some o => State.takeTurns fuel { s with search := { q.mark o with probeAt := q.probeAt + 1 } }
      | none => s.goMeasure p.pan p.tilt
    else
      match q.judge with
      | .centre v p =>
        State.takeTurns fuel
          { s with search := { q with centrePan := p.pan, centreTilt := p.tilt, centreLevel := v }.newRound }
      | .halve step => State.takeTurns fuel { s with search := { q with step := step }.newRound }
      | .converged => s.goCentre .converged

/-- The turns that no search outlasts. -/
def turnFuel : Nat := 64

/-- A measurement of the centre is complete (R148). -/
def State.centreMeasured (s : State) (mean : Nat) (saturated : Bool) : State :=
  if saturated then s.endSearch .saturated
  else if mean < s.sense.levelFloor then s.endSearch .beaconAbsent
  else ({ s with search := { s.search with state := .probing, centreLevel := mean }.newRound }).takeTurns turnFuel

/-- A measurement of a probe is complete (R150). -/
def State.probeMeasured (s : State) (mean : Nat) (saturated : Bool) : State :=
  let q := { s.search.mark (.level mean) with measured := s.search.measured + 1, measuring := .idle, dwellTimer := none }
  let t := { s with search := q }
  if saturated then t.endSearch .saturated
  else if q.profile.budget ≤ q.measured then t.goCentre .budgetSpent
  else ({ t with search := { q with probeAt := q.probeAt + 1 } }).takeTurns turnFuel

/-- A measurement is complete: its mean and its saturation go to the step that asked for it (R147). -/
def State.measureDone (s : State) (counts : List Nat) : State :=
  let mean := counts.sum / counts.length
  let saturated := counts.any (fun c => decide (s.sense.levelCeiling ≤ c))
  match s.search.state with
  | .measureCentre => s.centreMeasured mean saturated
  | .probing => s.probeMeasured mean saturated
  | _ => s

/-- A LEVEL conversion hands its count to the engine (R147). -/
def State.sampleLevel (s : State) (c : Nat) : State :=
  match s.search.measuring with
  | .sampling counts =>
    let counts := counts ++ [c]
    if s.search.profile.samples ≤ counts.length then s.measureDone counts
    else { s with search := { s.search with measuring := .sampling counts } }
  | _ => s

/-- A dwell ends: the next conversions are the samples (R147). -/
def State.dwellEnds (s : State) : State :=
  match s.search.measuring with
  | .dwelling => { s with search := { s.search with measuring := .sampling [], dwellTimer := none } }
  | _ => s

/-- An axis hands the engine the end of a motion (R146, R152, R156); an engine that is IDLE takes no action. -/
def State.searchAxisEnd (s : State) (st : Arrival) : State :=
  if s.searching = false then s
  else if st ≠ .arrived then s.cutSearch .aborted
  else
    match s.search.measuring with
    | .moving =>
      if s.dishAtRest then
        match s.search.state, s.search.final with
        | .finishing, some f => s.endSearch f
        | _, _ => s.beginDwell
      else s
    | _ => s

/-! ## Tracking (R158, R159, R164) -/

/-- TRACK on with an interval (R164). -/
def State.trackOn (s : State) (interval : Nat) : State :=
  { s with
    tracking := { s.tracking with enabled := true }
    trackTimer := { mode := .repeating, interval := interval, elapsed := 0, elapsedMs := 0 } }

/-- TRACK off (R164): the timer is OFF, and keeps its interval (R208). -/
def State.trackOff (s : State) : State :=
  { s with
    tracking := { s.tracking with enabled := false }
    trackTimer := { s.trackTimer with mode := .off, elapsed := 0, elapsedMs := 0 } }

/-- The first test of R159 that an expiry fails, or STARTED. -/
def State.trackTest (s : State) : TrackOutcome :=
  if s.tracking.enabled = false then .droppedDisabled
  else if s.searching then .droppedRunning
  else if (match s.tracking.site with | none => true | some n => (s.site? n).isNone) then .droppedNoSite
  else if ¬ (s.pos.owner = .console ∨ (s.pos.owner = .sequence ∧ s.seq.state = .deployed)) then .droppedOwner
  else if s.pos.pan.referenced = false ∨ s.pos.tilt.referenced = false ∨ s.dishAtRest = false then .droppedAxes
  else if (s.mast.state ≠ .rest ∧ s.mast.state ≠ .topping) ∨ s.mastReady = false then .droppedMast
  else .started

/-- An expiry of the TRACK timer is decided (R159). -/
def State.trackExpires (s : State) : State :=
  let o := s.trackTest
  let t := { s with tracking := { s.tracking with lastExpiry := some o } }
  match o, s.tracking.site with
  | .started, some n => (t.startSearch .track (.site n) n).1
  | _, _ => t

end Sys2Proof.Machine
end

