-- ==== Sys2Proof/Machine/SequenceOps.lean ====
section
/-! DEFINITION. The aim that the console and the sequence share (R27, R28), and the Sequence Controller's stages (R181 to R187, R189).
Each stage's entry stands after the stages that it can go on to. -/

namespace Sys2Proof.Machine

open Sys2Proof

/-! ## AIM (R27, R28) -/

/-- Checks 1 to 3 of R27, for the owner that the issuer must be. -/
def State.aimRefusal (s : State) (need : Owner) (n : Nat) : Option Status :=
  if 15 < n then some .range
  else if s.positionerInForce then some .tripped
  else if s.pos.owner ≠ need then some .busy
  else none

/-- The transfer checks of an AIM with a VALID solution: pan, then tilt, then pol (R27). -/
def State.aimTransferRefusal (s : State) (q : Solution) : Option Status :=
  if s.pos.pan.referenced = false then some .unreferenced
  else if s.mastReady = false then some .lowMast
  else if q.hasPreferred = false then some .blocked
  else if s.pos.tilt.referenced = false ∨ s.pos.pol.referenced = false then some .unreferenced
  else none

/-- The three transfers of an accepted AIM, made together (R28). -/
def State.aimTransfer (s : State) (q : Solution) (o : Owner) : State :=
  let s := { s with pos := s.pos.emptySlots }
  let s := ((s.startMove .pan q.panTarget o).startMove .tilt q.tiltTarget o).startMove .pol q.polTarget o
  { s with tracking := { s.tracking with site := some q.site } }

/-- An AIM that has passed checks 1 to 3: the solution is computed and written, and its targets are transferred or refused (R27, R28);
the status is the reply's. -/
def State.aimRun (s : State) (n : Nat) (o : Owner) : State × Status :=
  let q := solve (s.solveInputs n s.extension)
  let t := { s with solution := q }
  if q.status = .valid then
    match t.aimTransferRefusal q with
    | some .blocked => (t.recordViolation .pathBlocked q.blockedSector t.pos.pan.position, .blocked)
    | some st => (t, st)
    | none => (t.aimTransfer q o, if q.tiltClamped then .clamped else .ok)
  else (t, solutionRefusal q)

/-! ## Notices, causes and the failure (R176, R178, R187) -/

/-- A change of sequence state raises SEQUENCE (R178). -/
def State.seqEnter (s : State) (st : SeqState) : State :=
  ({ s with seq := { s.seq with state := st, awaits := {}, issued := false } }).raise .sequence

/-- The cause that a refused stage request gives (R176). -/
def causeOfStatus : Status → Cause
  | .busy => .busy
  | .state => .state
  | .unreferenced => .unreferenced
  | .blocked => .blocked
  | .lowMast => .lowMast
  | .noFix => .noFix
  | .noSite => .noSite
  | .geometry => .geometry
  | .tripped => .tripped
  | _ => .range

/-- The cause that a mast outcome gives (R176, R182, R189). -/
def causeOfOutcome : MastOutcome → Cause
  | .heightOff => .heightOff
  | _ => .stopped

/-- The cause that a final status gives (R176, R184). -/
def causeOfFinal : FinalStatus → Cause
  | .beaconAbsent => .beaconAbsent
  | .saturated => .saturated
  | .tripped => .tripped
  | .noFix => .noFix
  | .noSite => .noSite
  | .geometry => .geometry
  | _ => .aborted

/-- The transmit wait timer stopped (R176). -/
def Sequence.noWait (q : Sequence) : Sequence := { q with txWait := none, txWaitMs := 0 }

/-- The three axes stopped (R187, R190). -/
def State.stopAll (s : State) : State := ((s.stopAxis .pan .stopped).stopAxis .tilt .stopped).stopAxis .pol .stopped

/-- An axis stopped by the failure of a sequence: its end is handed to the sequence, and raises no notice, whoever started its motion
(R187, step 3; log entry 38). -/
def State.failStop (s : State) (a : Axis) : State :=
  if moving (s.axis a) then s.setAxis a { standing (s.axis a) .stopped with origin := .sequence } else s

/-- The mast stopped by the failure of a sequence, as MAST_STOP stops it: the end of a motion that it stops is handed to the sequence, and
raises no notice; a mast found in SETTLING is stopped as well (log entry 22), and keeps the origin of its move (R187, step 3; log entry
38). -/
def State.failStopMast (s : State) : State :=
  let t := s.mastStop
  if s.mast.state ≠ .settling ∧ t.mast.state = .settling then { t with mast := { t.mast with origin := .sequence } } else t

/-- What the sequence owns is brought to a stand and given back to the console; a search that it lent the positioner to returns it to
the console (R187, steps 3 and 4). -/
def State.seqRelease (s : State) : State :=
  let s := if s.pos.owner = .sequence then (((s.failStop .pan).failStop .tilt).failStop .pol).setOwner .console else s
  let s := if s.pos.owner = .search ∧ s.search.ownerBefore = some .sequence then
      { s with search := { s.search with ownerBefore := some .console } }
    else s
  if s.mast.owner = .sequence then
    let s := s.failStopMast
    { s with mast := { s.mast with owner := .console } }
  else s

/-- A running sequence fails with a cause (R187). -/
def State.seqFail (s : State) (c : Cause) : State :=
  let stage := s.seq.state
  let s := { s with seq := { s.seq.noWait with state := .failed, failure := some { stage := stage, cause := c }
                                               awaits := {}, issued := false } }
  let s := if c = .txTimeout then s.setRequest false else s
  s.seqRelease.raise .sequence

/-! ## The deploy stages, last to first (R181 to R186) -/

/-- DEPLOYED is entered (R186). -/
def State.enterDeployed (s : State) : State :=
  let s := { s with seq := s.seq.noWait }.seqEnter .deployed
  match s.seq.deploy with
  | some d => if d.track then s.trackOn d.interval else s
  | none => s

/-- The transmit wait timer at its start (R176). -/
def txWaitUnits : Nat := 50

/-- DEPLOY_TX is entered (R185). -/
def State.enterDeployTx (s : State) : State :=
  let s := (s.seqEnter .deployTx).setRequest true
  if s.gate.state = .on then s.enterDeployed
  else { s with seq := { s.seq with txWait := some txWaitUnits, txWaitMs := 0 } }

/-- The deploy goes on past its search (R183, R184). -/
def State.afterSearch (s : State) : State :=
  match s.seq.deploy with
  | some d => if d.tx then s.enterDeployTx else s.enterDeployed
  | none => s.enterDeployed

/-- DEPLOY_SEARCH issues its SEARCH once pan, tilt and mast stand in REST (R184). -/
def State.issueSearch (s : State) : State :=
  if s.seq.state = .deploySearch ∧ s.seq.issued = false ∧ s.dishAtRest = true ∧ s.mast.state = .rest then
    let n := match s.seq.deploy with | some d => d.site | none => 0
    match s.searchRefusal .sequence n with
    | some st => s.seqFail (causeOfStatus st)
    | none =>
      let r := ({ s with seq := { s.seq with issued := true } }).startSearch .acquire (.site n) n
      if r.2 = .ok then r.1 else r.1.seqFail (causeOfStatus r.2)
  else s

/-- DEPLOY_SEARCH is entered (R184). -/
def State.enterDeploySearch (s : State) : State := (s.seqEnter .deploySearch).issueSearch

/-- The deploy goes on past its aim (R183). -/
def State.afterAim (s : State) : State :=
  match s.seq.deploy with
  | some d => if d.search then s.enterDeploySearch else s.afterSearch
  | none => s.afterSearch

/-- DEPLOY_AIM is entered and issues its AIM (R183). -/
def State.enterDeployAim (s : State) : State :=
  let s := s.seqEnter .deployAim
  let n := match s.seq.deploy with | some d => d.site | none => 0
  match s.aimRefusal .sequence n with
  | some st => s.seqFail (causeOfStatus st)
  | none =>
    let r := s.aimRun n .sequence
    if r.2 = .ok ∨ r.2 = .clamped then
      { r.1 with seq := { r.1.seq with awaits := { pan := true, tilt := true, pol := true } } }
    else r.1.seqFail (causeOfStatus r.2)

/-- DEPLOY_RAISE issues its MAST_TO once the mast is NESTED, in REST or in TOPPING (R182). -/
def State.issueRaise (s : State) : State :=
  if s.seq.state = .deployRaise ∧ s.seq.issued = false
      ∧ (s.mast.state = .nested ∨ s.mast.state = .rest ∨ s.mast.state = .topping) then
    let h := min (match s.seq.deploy with | some d => d.height | none => 0) s.raiseLimit
    match s.mastRefusal .sequence (s.wouldBe h) false with
    | some st => s.seqFail (causeOfStatus st)
    | none =>
      match s.mastToRefusal with
      | some st => s.seqFail (causeOfStatus st)
      | none => (({ s with seq := { s.seq with issued := true } }).mastTakes h .sequence).mastSetsOut
  else s

/-- DEPLOY_RAISE is entered (R182). -/
def State.enterDeployRaise (s : State) : State := (s.seqEnter .deployRaise).issueRaise

/-- DEPLOY_HOME is entered: every unreferenced axis is homed, at the same moment (R181). -/
def State.enterDeployHome (s : State) : State :=
  let s := s.seqEnter .deployHome
  let want := allAxes.filter (fun a => !(s.axis a).referenced)
  if s.positionerInForce then s.seqFail .tripped
  else if s.pos.owner ≠ .sequence then s.seqFail .busy
  else if want.any (fun a => (s.homeRefusal a).isSome) then s.seqFail .state
  else
    let t := want.foldl (fun u a => u.startHome a .sequence) s
    { t with seq := { t.seq with
        awaits := { pan := want.contains .pan, tilt := want.contains .tilt, pol := want.contains .pol } } }

/-- The stage that an accepted DEPLOY enters (R180). -/
def State.enterDeploy (s : State) : State :=
  if allAxes.all (fun a => (s.axis a).referenced) then s.enterDeployRaise else s.enterDeployHome

/-! ## The stow stages (R189) -/

/-- The sequence has ended at the nest (R189). -/
def State.seqDone (s : State) : State :=
  let s := s.seqEnter .idle
  let s := if s.pos.owner = .sequence then s.setOwner .console else s
  if s.mast.owner = .sequence then { s with mast := { s.mast with owner := .console } } else s

/-- STOW_MAST is entered and issues its MAST_LOWER (R189). -/
def State.enterStowMast (s : State) : State :=
  let s := s.seqEnter .stowMast
  match s.mastRefusal .sequence (some .lowering) false with
  | some st => s.seqFail (causeOfStatus st)
  | none => if s.mast.state = .nested then s.seqDone else (s.lowerTakes .sequence).lowerToNest

/-- STOW_POSITIONER is entered and issues its STOW (R189). -/
def State.enterStowPositioner (s : State) : State :=
  let s := s.seqEnter .stowPositioner
  if s.positionerInForce then s.seqFail .tripped
  else if s.pos.owner ≠ .sequence then s.seqFail .busy
  else
    let r := s.stow .sequence
    if r.2 then { r.1 with seq := { r.1.seq with awaits := { pan := true, tilt := true, pol := false } } }
    else r.1.seqFail .blocked

/-! ## What is handed to the sequence (R177) -/

/-- The stage that follows when the last awaited axis has ended ARRIVED. -/
def State.axesDone (s : State) : State :=
  match s.seq.state with
  | .deployHome => s.enterDeployRaise
  | .deployAim => s.afterAim
  | .stowPositioner => s.enterStowMast
  | _ => s

/-- An axis hands the sequence the end of a motion (R181, R183, R189). -/
def State.seqAxisEnd (s : State) (a : Axis) (st : Arrival) : State :=
  if s.seq.awaits.has a then
    if st = .arrived then
      let w := s.seq.awaits.set a false
      let t := { s with seq := { s.seq with awaits := w } }
      if w.isEmpty then t.axesDone else t
    else s.seqFail .stopped
  else s

/-- The mast hands the sequence an outcome (R182, R189). -/
def State.seqMastEnd (s : State) (o : MastOutcome) : State :=
  match s.seq.state with
  | .deployRaise => if s.seq.issued then (if o = .reached then s.enterDeployAim else s.seqFail (causeOfOutcome o)) else s
  | .stowMast => if o = .reached then s.seqDone else s.seqFail (causeOfOutcome o)
  | _ => s

/-- A search hands the sequence its final status (R184, R186). -/
def State.seqSearchEnd (s : State) (f : FinalStatus) : State :=
  match s.seq.state with
  | .deploySearch => if f = .converged ∨ f = .budgetSpent then s.afterSearch else s.seqFail (causeOfFinal f)
  | .deployed => if f = .tripped then s.seqFail .tripped else s
  | _ => s

/-- The gate hands the sequence a change of its state (R185). -/
def State.seqGate (s : State) : State :=
  match s.seq.state with
  | .deployTx =>
    match s.gate.state with
    | .on => s.enterDeployed
    | .off => s.seqFail .txWithdrawn
    | .wait => s
  | _ => s

/-- A trip has taken the mast or the positioner: a running sequence fails TRIPPED (R187). -/
def State.seqTaken (s : State) : State := if s.sequencing then s.seqFail .tripped else s

/-! ## What other operations hand on -/

/-- The end of a search, if there was one between two states, is handed to the sequence it belongs to (R153, step 5). -/
def State.handSearchEnd (s t : State) : State :=
  if s.searching = true ∧ t.searching = false ∧ s.search.ownerBefore = some .sequence then
    match t.search.final with
    | some f => t.seqSearchEnd f
    | none => t
  else t

/-- An outcome that the mast hands the sequence, if there is one (R84). -/
def handMast (r : State × Option MastOutcome) : State :=
  match r.2 with
  | some o => r.1.seqMastEnd o
  | none => r.1

/-- The gate forms its state, and hands a change to the sequence (R171). -/
def State.gateSync (s : State) : State :=
  let t := s.gateForm
  if t.gate.state = s.gate.state then t else t.seqGate

end Sys2Proof.Machine
end

