-- ==== Sys2Proof/Machine/Coding.lean ====
section
/-! DEFINITION. The bytes of replies and notices: the field codings and the layouts of spec/10. A layout that the manual does not set
out byte by byte is its contents in the order its rule names them, each at its field coding (log entry 9). -/

namespace Sys2Proof.Machine

open Sys2Proof

/-! ## Field codings -/

/-- A two-byte unsigned number; one that does not fit is a free value (log entry 4). -/
def unsignedHalf (n : Nat) : List Byte :=
  halfBytes (if n < 65536 then BitVec.ofNat 16 n else Config.wideHalf n)

/-- A two-byte signed number; one that does not fit is a free value (log entry 4). -/
def signedHalf (x : Int) : List Byte :=
  halfBytes (if -32768 ≤ x ∧ x ≤ 32767 then BitVec.ofInt 16 x else Config.wideHalf x)

/-- A four-byte signed number. -/
def signedQuad (x : Int) : List Byte := quadBytes (BitVec.ofInt 32 x)

/-- A one-byte number. -/
def smallByte (n : Nat) : List Byte := [BitVec.ofNat 8 n]

/-- A flag. -/
def flagByte (b : Bool) : List Byte := [if b then 1 else 0]

/-- An enumeration, from the number of its value; 0xFF for absent. -/
def codeByte (n : Option Nat) : List Byte :=
  match n with
  | some n => [BitVec.ofNat 8 n]
  | none => [0xFF]

/-- An optional group: its flag, and its bytes, zeros when it is absent. -/
def optional (width : Nat) (g : Option (List Byte)) : List Byte :=
  match g with
  | some bs => 1 :: bs
  | none => 0 :: List.replicate width 0

/-- A set, from its members' places, bit 0 for the first. -/
def setHalf (bits : List Bool) : List Byte :=
  unsignedHalf (bits.foldr (fun b n => 2 * n + (if b then 1 else 0)) 0)

/-! ## Codes of the enumerations -/

/-- The code of an attribute (R30). -/
def attrCode : Attr → Nat
  | .openSky => 0
  | .shadow => 1
  | .noTx => 2
  | .blocked => 3

/-- The code of a kind of violation (R40). -/
def violationCode : ViolationKind → Nat
  | .pathBlocked => 0
  | .mapUnderMove => 1
  | .txSector => 2

/-- The code of a solution status (R11). -/
def solutionCode : SolutionStatus → Nat
  | .invalid => 0
  | .valid => 1
  | .noFix => 2
  | .noSite => 3
  | .geometry => 4

/-- The code of a geometry detail (R11). -/
def detailCode : GeometryDetail → Nat
  | .latitude => 0
  | .tooNear => 1
  | .tooFar => 2

/-- The code of a positioner owner (R54). -/
def ownerCode : Owner → Nat
  | .console => 0
  | .search => 1
  | .sequence => 2
  | .trip => 3

/-- The code of a motion state (R51). -/
def motionCode : Motion → Nat
  | .unref => 0
  | .homing => 1
  | .rest => 2
  | .slewing => 3
  | .settling => 4
  | .jogging => 5
  | .held => 6

/-- The code of an update moment (R59). -/
def momentCode : Moment → Nat
  | .immediate => 0
  | .atRest => 1
  | .onSync => 2
  | .held => 3

/-- The code of a slew class (R52). -/
def slewCode : SlewClass → Nat
  | .full => 0
  | .threeQuarter => 1
  | .half => 2
  | .threeEighths => 3

/-- The code of a last arrival status (R51). -/
def arrivalCode : Arrival → Nat
  | .arrived => 0
  | .stopped => 1
  | .held => 2
  | .refused => 3

/-- The code of a capture outcome (R65, R70). -/
def captureCode : CaptureOutcome → Nat
  | .corrected => 0
  | .slipped => 1
  | .referenced => 2

/-- The code of an edge direction (R53). -/
def edgeCode : Edge → Nat
  | .rising => 0
  | .falling => 1

/-- The code of a mast state (R83). -/
def mastCode : MastState → Nat
  | .unref => 0
  | .nested => 1
  | .raising => 2
  | .lowering => 3
  | .clearWait => 4
  | .settling => 5
  | .nudging => 6
  | .rest => 7
  | .topping => 8
  | .held => 9

/-- The code of a mast outcome (R84). -/
def outcomeCode : MastOutcome → Nat
  | .reached => 0
  | .heightOff => 1
  | .stopped => 2
  | .held => 3

/-- The code of a mast owner (R84). -/
def mastOwnerCode : MastOwner → Nat
  | .console => 0
  | .sequence => 1
  | .trip => 2

/-- The code of a trip state (R122). -/
def tripStateCode : TripState → Nat
  | .clear => 0
  | .active => 1
  | .releasing => 2
  | .latchedWait => 3

/-- The code of a trip mode (R122). -/
def tripModeCode : TripMode → Nat
  | .latched => 0
  | .selfClearing => 1

/-- The code of a window state (R107). -/
def windowCode : WindowState → Nat
  | .below => 0
  | .inside => 1
  | .above => 2

/-- The code of a polarity (R112). -/
def polarityCode : Polarity → Nat
  | .faultOpen => 0
  | .faultClosed => 1

/-- The code of a search kind (R141). -/
def kindCode : SearchKind → Nat
  | .acquire => 0
  | .track => 1

/-- The code of a search state (R141). -/
def searchStateCode : SearchState → Nat
  | .idle => 0
  | .measureCentre => 1
  | .probing => 2
  | .finishing => 3

/-- The code of a final status (R141). -/
def finalCode : FinalStatus → Nat
  | .converged => 0
  | .budgetSpent => 1
  | .beaconAbsent => 2
  | .saturated => 3
  | .aborted => 4
  | .tripped => 5
  | .noFix => 6
  | .noSite => 7
  | .geometry => 8

/-- The code of a track expiry outcome (R158). -/
def trackCode : TrackOutcome → Nat
  | .started => 0
  | .droppedDisabled => 1
  | .droppedRunning => 2
  | .droppedNoSite => 3
  | .droppedOwner => 4
  | .droppedAxes => 5
  | .droppedMast => 6

/-- The code of a gate state (R166). -/
def gateCode : GateState → Nat
  | .off => 0
  | .wait => 1
  | .on => 2

/-- The code of a sequence state (R176). -/
def seqCode : SeqState → Nat
  | .idle => 0
  | .deployHome => 1
  | .deployRaise => 2
  | .deployAim => 3
  | .deploySearch => 4
  | .deployTx => 5
  | .deployed => 6
  | .stowPositioner => 7
  | .stowMast => 8
  | .failed => 9
  | .aborted => 10

/-- The code of a failure cause (R176), numbered in the order of its table, each named once. -/
def causeCode : Cause → Nat
  | .range => 0
  | .busy => 1
  | .state => 2
  | .unreferenced => 3
  | .blocked => 4
  | .lowMast => 5
  | .noFix => 6
  | .noSite => 7
  | .geometry => 8
  | .tripped => 9
  | .heightOff => 10
  | .stopped => 11
  | .beaconAbsent => 12
  | .saturated => 13
  | .aborted => 14
  | .txTimeout => 15
  | .txWithdrawn => 16

/-- The code of a status (spec/10, status codes). -/
def statusCode : Status → Nat
  | .ok => 0
  | .clamped => 1
  | .busy => 2
  | .state => 3
  | .locked => 4
  | .range => 5
  | .tripped => 6
  | .unreferenced => 7
  | .blocked => 8
  | .noFix => 9
  | .noSite => 10
  | .geometry => 11
  | .lowMast => 12
  | .format => 13

/-- The code of a reset (R203). -/
def resetCode : ResetKind → Nat
  | .powerOn => 0
  | .resetLine => 1
  | .restart => 2

/-- The code of a timer mode (R208). -/
def timerModeCode : TimerMode → Nat
  | .off => 0
  | .oneShot => 1
  | .repeating => 2

/-! ## Shared groups -/

/-- A sector record: attribute and height (R30). -/
def sectorBytes (r : SectorRec) : List Byte := codeByte (some (attrCode r.attr)) ++ unsignedHalf r.height

/-- The violation record and the more flag (R48). -/
def violationBytes (v : Option Violation) (more : Bool) : List Byte :=
  optional 6 (v.map (fun v =>
      codeByte (some (violationCode v.kind)) ++ smallByte v.sector ++ signedHalf v.pan ++ unsignedHalf v.fixNumber))
    ++ flagByte more

/-- A set of axes (R122). -/
def axesBytes (x : AxisSet) : List Byte := setHalf [x.pan, x.tilt, x.pol]

/-- The combined action, all five entries, NONE first in each (R95, R129). -/
def actionBytes (c : CombinedAction) : List Byte :=
  codeByte (some (match c.raising with | none => 0 | some .stop => 1 | some .lower => 2))
    ++ codeByte (some (match c.lowering with | none => 0 | some .goOn => 1 | some .stop => 2))
    ++ codeByte (some (match c.rest with | .noAction => 0 | .lower => 1))
    ++ codeByte (some (match c.positioner with | .noAction => 0 | .hold => 1 | .stow => 2))
    ++ codeByte (some (match c.transmit with | .noAction => 0 | .inhibit => 1))

/-- An action record, coded as TRIP_CONFIG carries it (R123, R136). -/
def recordBytes (r : ActionRec) : List Byte :=
  codeByte (some (match r.raising with | .stop => 0 | .lower => 1))
    ++ codeByte (some (match r.lowering with | .goOn => 0 | .stop => 1))
    ++ codeByte (some (match r.rest with | .noAction => 0 | .lower => 1))
    ++ codeByte (some (match r.positioner with | .noAction => 0 | .hold => 1 | .stow => 2))
    ++ codeByte (some (match r.transmit with | .noAction => 0 | .inhibit => 1))

/-- The inhibit-reason set (R170). -/
def reasonBytes (r : Reasons) : List Byte := setHalf [r.trip, r.mast, r.axes, r.stowed, r.sector, r.shadowLow]

/-- The motion that CLEAR_WAIT interrupted: LOWERING or NUDGING, absent in any other state (R100). -/
def interruptedBytes (m : Mast) : List Byte :=
  codeByte (if m.state = .clearWait then some (if m.waitsForNudge then 1 else 0) else none)

/-- The position of an axis, absent while it is unreferenced (R51). -/
def positionBytes (x : AxisRec) : List Byte := optional 2 (if x.referenced then some (signedHalf x.position) else none)

/-- The last arrival statuses of the three axes and the mast's last outcome (R178, R203). -/
def endBytes (s : State) : List Byte :=
  codeByte (s.pos.pan.lastArrival.map arrivalCode) ++ codeByte (s.pos.tilt.lastArrival.map arrivalCode)
    ++ codeByte (s.pos.pol.lastArrival.map arrivalCode) ++ codeByte (s.mast.outcome.map outcomeCode)

/-- The store state, IDLE or SAVING (R212). -/
def storeBytes (s : State) : List Byte := codeByte (some (if s.store.snapshot.isSome then 1 else 0))

/-! ## Reply contents -/

/-- FENTIGO AL40. -/
def partName : List Byte := [0x46, 0x45, 0x4E, 0x54, 0x49, 0x47, 0x4F, 0x20, 0x41, 0x4C, 0x34, 0x30]

/-- The contents of IDENT (R199). The manual gives the design revision no width: one byte, DESIGN CHOICE, log entry 9. -/
def identBytes (s : State) : List Byte :=
  partName ++ smallByte 3 ++ flagByte s.lock ++ flagByte s.store.storeBad ++ storeBytes s

/-- A site record with its learned-offset group (R6, site record of spec/10). -/
def siteBytes (r : Site) : List Byte :=
  smallByte r.number ++ signedQuad r.lat ++ signedQuad r.lon ++ signedQuad r.alt ++ unsignedHalf r.pol
    ++ unsignedHalf r.beaconFloor ++ unsignedHalf r.beaconCeiling ++ smallByte r.name.length ++ r.name
    ++ optional 12 (r.learned.map (fun g => signedHalf g.pan ++ signedHalf g.tilt ++ signedQuad g.lat ++ signedQuad g.lon))

/-- The directory (R6). -/
def directoryBytes (sites : List Site) : List Byte :=
  smallByte sites.length ++ sites.map (fun r => BitVec.ofNat 8 r.number)

/-- An entry of the candidate list (solution record of spec/10). A path length is a quantity in cdeg and so a signed two-byte number; one
of 32768 to 40000 does not fit, and is a free value (log entry 4). -/
def candidateBytes (c : Candidate) : List Byte :=
  signedHalf c.position ++ signedHalf c.pathLength ++ flagByte c.admissible ++ codeByte c.firstBlocked ++ flagByte c.preferred

/-- The solution record (spec/10). -/
def solutionBytes (q : Solution) : List Byte :=
  codeByte (some (solutionCode q.status)) ++ codeByte (q.detail.map detailCode) ++ smallByte q.site
    ++ unsignedHalf q.fixNumber ++ unsignedHalf q.extension
    ++ signedQuad q.north ++ signedQuad q.east ++ signedQuad q.distance
    ++ unsignedHalf q.bearing ++ signedHalf q.elevation ++ unsignedHalf q.azimuth ++ signedHalf q.vanElevation
    ++ signedHalf q.polarisation ++ signedHalf q.panTarget ++ signedHalf q.tiltTarget ++ signedHalf q.polTarget
    ++ flagByte q.tiltClamped ++ flagByte q.offsetsApplied ++ flagByte q.stale
    ++ smallByte q.candidates.length ++ (q.candidates.map candidateBytes).flatten

/-- A sector record of a layer (R44). -/
def MapSettings.layerRec (m : MapSettings) : Layer → Nat → SectorRec
  | .body => m.bodyRec
  | .survey => m.surveyRec
  | .effective => m.effective

/-- The contents of MAP_READ (R44). -/
def mapBytes (s : State) (layer : Layer) (first count : Nat) : List Byte :=
  codeByte (some (match layer with | .body => 0 | .survey => 1 | .effective => 2)) ++ smallByte first ++ smallByte count
    ++ ((List.range count).map (fun (j : Nat) => sectorBytes (s.work.map.layerRec layer ((first + j) % 72)))).flatten
    ++ unsignedHalf s.work.map.ceiling ++ unsignedHalf s.raiseLimit ++ flagByte s.lock ++ unsignedHalf s.work.map.stowAzimuth

/-- The class speed of an axis (R52), as an unsigned two-byte number of cdeg/s (DESIGN CHOICE, log entry 5); 112.5 cdeg/s has no whole
number of cdeg/s (log entry 5). -/
def speedBytes (a : Axis) (c : SlewClass) : List Byte :=
  if fullSpeed a * classEighths c % 8 = 0 then unsignedHalf (fullSpeed a * classEighths c / 8)
  else halfBytes Config.fractionalSpeed

/-- An index capture record (R51, R65, R70). -/
def captureBytes (c : Capture) : List Byte :=
  codeByte (some (captureCode c.outcome)) ++ codeByte (some (edgeCode c.edge)) ++ optional 2 (c.raw.map signedHalf)
    ++ optional 2 (c.correction.map signedHalf)

/-- The contents of AXIS_READ (R51, R78). -/
def axisBytes (s : State) (a : Axis) : List Byte :=
  let x := s.axis a
  let y := s.axisSettings a
  flagByte x.referenced ++ positionBytes x ++ codeByte (some (motionCode x.motion)) ++ signedHalf x.target
    ++ optional 2 (x.slot.map signedHalf) ++ codeByte (some (momentCode y.moment)) ++ codeByte (some (slewCode y.slewClass))
    ++ codeByte (some (ownerCode x.origin)) ++ codeByte (x.lastArrival.map arrivalCode)
    ++ optional 8 (x.capture.map captureBytes) ++ speedBytes a y.slewClass ++ signedHalf y.indexPosition
    ++ codeByte (some (ownerCode s.pos.owner)) ++ flagByte s.lines.panStow.level ++ flagByte s.lines.tiltStow.level
    ++ flagByte s.lines.wrap.level ++ flagByte (s.lines.line (indexLine a)).level

/-- The contents of MAST_READ (R100). -/
def mastBytes (s : State) : List Byte :=
  let m := s.mast
  let y := s.work.mast
  codeByte (some (mastCode m.state)) ++ interruptedBytes m ++ flagByte m.referenced ++ unsignedHalf m.counter
    ++ unsignedHalf s.extension ++ unsignedHalf s.pivotHeight ++ unsignedHalf m.target ++ smallByte m.nudges
    ++ codeByte (m.outcome.map outcomeCode) ++ codeByte (some (mastOwnerCode m.owner)) ++ codeByte (some (mastOwnerCode m.origin))
    ++ unsignedHalf s.raiseLimit ++ unsignedHalf (2 * s.pausePoint)
    ++ unsignedHalf y.maxExtension ++ unsignedHalf y.stowedPivot ++ unsignedHalf y.clearance ++ unsignedHalf y.stopLead
    ++ unsignedHalf y.tolerance ++ unsignedHalf y.sagAllowance
    ++ flagByte m.compressor ++ flagByte m.vent
    ++ flagByte s.lines.nest.level ++ flagByte s.lines.pressure.level ++ flagByte s.windowClosed

/-- One channel of SENSE_READ (R116). -/
def channelBytes (r : ChannelRec) (reading : Option (List Byte)) (low high : List Byte) (w : WindowState) : List Byte :=
  unsignedHalf r.latest ++ smallByte r.filter.length ++ optional 2 reading ++ low ++ high ++ codeByte (some (windowCode w))

/-- The contents of SENSE_READ (R116). -/
def senseBytes (s : State) : List Byte :=
  let x := s.sense
  let y := s.work.sense
  channelBytes x.level ((meanOf x.level).map unsignedHalf) (unsignedHalf x.levelFloor) (unsignedHalf x.levelCeiling) s.levelWindow
    ++ channelBytes x.pitch (s.pitchReading.map signedHalf) (signedHalf (-(y.tiltLimit : Int))) (signedHalf y.tiltLimit)
        (angleWindow s.pitchReading y.tiltLimit)
    ++ channelBytes x.roll (s.rollReading.map signedHalf) (signedHalf (-(y.tiltLimit : Int))) (signedHalf y.tiltLimit)
        (angleWindow s.rollReading y.tiltLimit)
    ++ channelBytes x.supply (s.supplyReading.map unsignedHalf) (unsignedHalf y.supplyLow)
        (unsignedHalf (supplyFullScale y.supplyScale)) s.supplyWindow
    ++ unsignedHalf y.pitchZero ++ unsignedHalf y.rollZero ++ unsignedHalf y.pitchGain ++ unsignedHalf y.rollGain
    ++ unsignedHalf y.supplyScale ++ unsignedHalf (supplyFullScale y.supplyScale)
    ++ unsignedHalf y.tiltLimit ++ unsignedHalf y.supplyLow
    ++ codeByte (some (polarityCode y.pressurePolarity)) ++ codeByte (some (polarityCode y.auxPolarity))
    ++ (allLines.map (fun n => flagByte (s.lines.line n).level)).flatten
    ++ unsignedHalf y.gateLength ++ unsignedHalf y.windRun ++ unsignedHalf y.windLimit ++ unsignedHalf (gustSetValue y)
    ++ unsignedHalf x.gateElapsed ++ unsignedHalf x.pulses ++ unsignedHalf x.gust ++ unsignedHalf x.windSpeed
    ++ flagByte s.trips.tilt.cause ++ flagByte s.trips.supply.cause ++ flagByte s.trips.wind.cause
    ++ flagByte s.trips.estop.cause ++ flagByte s.trips.drive.cause ++ flagByte s.trips.pressure.cause
    ++ flagByte s.trips.aux.cause

/-- A trip configuration (R122). -/
def configBytes (c : TripConfig) : List Byte :=
  flagByte c.enabled ++ codeByte (some (tripModeCode c.mode)) ++ unsignedHalf c.delay ++ recordBytes c.action

/-- One source of TRIP_READ (R137). -/
def sourceBytes (r : SourceRec) : List Byte :=
  codeByte (some (tripStateCode r.state)) ++ flagByte r.cause ++ configBytes r.config ++ optional 9 (r.staged.map configBytes)
    ++ unsignedHalf (if r.state = .releasing then r.timer else 0) ++ axesBytes r.axes

/-- The contents of TRIP_READ (R137). -/
def tripBytes (s : State) : List Byte :=
  (allSources.map (fun n => sourceBytes (s.trips.source n))).flatten ++ actionBytes s.action
    ++ flagByte s.positionerInForce ++ flagByte (s.mastInForce s.mast.situation)

/-- The named sources that are not CLEAR, each with its state (R138). -/
def remainingBytes (t : Trips) (named : List Source) : List Byte :=
  let left := named.filter (fun n => decide ((t.source n).state ≠ .clear))
  smallByte left.length
    ++ (left.map (fun n => smallByte (sourceIndex n) ++ codeByte (some (tripStateCode (t.source n).state)))).flatten

/-- A profile (R142). -/
def profileBytes (p : Profile) : List Byte :=
  unsignedHalf p.initialStep ++ unsignedHalf p.minStep ++ unsignedHalf p.margin ++ unsignedHalf p.dwell
    ++ smallByte p.samples ++ smallByte p.budget ++ unsignedHalf p.radius

/-- A probe-list entry (R141). -/
def probeBytes (p : Probe) : List Byte :=
  signedHalf p.pan ++ signedHalf p.tilt
    ++ codeByte (some (match p.outcome with
      | .unmeasured => 0
      | .level _ => 1
      | .skippedRadius => 2
      | .skippedTravel => 3
      | .skippedMap => 4))
    ++ unsignedHalf (match p.outcome with | .level v => v | _ => 0)

/-- The search record (R141). -/
def searchBytes (q : Search) : List Byte :=
  codeByte (some (searchStateCode q.state)) ++ codeByte (q.kind.map kindCode)
    ++ (match q.origin with
      | some (.site n) => codeByte (some 0) ++ smallByte n
      | some .here => codeByte (some 1) ++ smallByte 0
      | none => codeByte none ++ smallByte 0)
    ++ optional 1 (q.beaconSite.map smallByte) ++ codeByte (q.ownerBefore.map ownerCode) ++ profileBytes q.profile
    ++ signedHalf q.startPan ++ signedHalf q.startTilt ++ optional 4 (q.raw.map (fun r => signedHalf r.1 ++ signedHalf r.2))
    ++ signedHalf q.centrePan ++ signedHalf q.centreTilt ++ unsignedHalf q.centreLevel ++ unsignedHalf q.step
    ++ smallByte q.measured ++ (q.probes.map probeBytes).flatten
    ++ codeByte ((if q.state = .idle then q.final else none).map finalCode) ++ flagByte q.stored

/-- The contents of SEARCH_READ (R162). -/
def searchReadBytes (s : State) : List Byte :=
  searchBytes s.search ++ profileBytes s.work.acquire ++ profileBytes s.work.track ++ flagByte s.tracking.enabled
    ++ optional 1 (s.tracking.site.map smallByte) ++ codeByte (s.tracking.lastExpiry.map trackCode)
    ++ unsignedHalf s.sense.levelFloor ++ unsignedHalf s.sense.levelCeiling

/-- The request, the gate state and the reason set (R173). -/
def gateBytes (s : State) : List Byte :=
  flagByte s.gate.request ++ codeByte (some (gateCode s.gate.state)) ++ reasonBytes s.reasons

/-- The gate's copy of an axis (R174). -/
def gateAxisBytes (x : AxisRec) : List Byte :=
  flagByte x.referenced ++ codeByte (some (motionCode x.motion)) ++ codeByte (some (ownerCode x.origin))

/-- The contents of TX_READ (R174). -/
def gateReadBytes (s : State) : List Byte :=
  flagByte s.gate.request ++ codeByte (some (gateCode s.gate.state)) ++ flagByte s.txPermit ++ reasonBytes s.reasons
    ++ codeByte (some (match s.action.transmit with | .noAction => 0 | .inhibit => 1))
    ++ codeByte (some (mastCode s.mast.state)) ++ unsignedHalf s.pivotHeight
    ++ gateAxisBytes s.pos.pan ++ gateAxisBytes s.pos.tilt
    ++ flagByte s.searching ++ codeByte ((if s.searching then s.search.kind else none).map kindCode)
    ++ flagByte s.lines.tiltStow.level
    ++ optional 4 (s.sectorUnderPan.map (fun k => smallByte k ++ sectorBytes (s.work.map.effective k)))

/-- The deploy record (R176). -/
def deployBytes (d : Option DeployRec) : List Byte :=
  optional 7 (d.map (fun d =>
    smallByte d.site ++ unsignedHalf d.height ++ setHalf [d.search, d.tx, d.track] ++ unsignedHalf d.interval))

/-- The failure record (R176). -/
def failureBytes (f : Option Failure) : List Byte :=
  optional 2 (f.map (fun f => codeByte (some (seqCode f.stage)) ++ codeByte (some (causeCode f.cause))))

/-- The sequence waits for the plant to stand before it issues a stage's request (R191). -/
def State.seqWaiting (s : State) : Bool :=
  decide ((s.seq.state = .deployRaise ∨ s.seq.state = .deploySearch) ∧ s.seq.issued = false)

/-- The contents of SEQ_READ (R191). -/
def seqBytes (s : State) : List Byte :=
  codeByte (some (seqCode s.seq.state)) ++ deployBytes s.seq.deploy ++ failureBytes s.seq.failure
    ++ unsignedHalf (s.seq.txWait.getD 0)
    ++ axesBytes (if s.seq.state = .deployHome then s.seq.awaits else {})
    ++ axesBytes (if s.seq.state = .deployAim ∨ s.seq.state = .stowPositioner then s.seq.awaits else {})
    ++ flagByte s.seqWaiting ++ codeByte (some (ownerCode s.pos.owner)) ++ codeByte (some (mastOwnerCode s.mast.owner))
    ++ codeByte (some (mastCode s.mast.state)) ++ interruptedBytes s.mast

/-- A set of notice kinds (R204). -/
def kindsBytes (v : BitVec 8) : List Byte := unsignedHalf v.toNat

/-- The notice status (spec/11). -/
def noticeBytes (n : Notices) : List Byte :=
  flagByte n.hush ++ kindsBytes n.masks ++ kindsBytes n.savedMasks ++ kindsBytes n.pending

/-- The contents of TIMER_READ (R210). -/
def timerBytes (t : IntervalTimer) : List Byte :=
  codeByte (some (timerModeCode t.mode)) ++ unsignedHalf t.interval ++ unsignedHalf t.elapsed

/-! ## Notice payloads (R203) -/

/-- The sources that are not CLEAR, each with its state and, for AXIS_STALL and SLIP, the axes named (R128). -/
def standingBytes (t : Trips) : List Byte :=
  let left := allSources.filter (fun n => decide ((t.source n).state ≠ .clear))
  smallByte left.length
    ++ (left.map (fun n => smallByte (sourceIndex n) ++ codeByte (some (tripStateCode (t.source n).state))
        ++ (if n = .axisStall ∨ n = .slip then axesBytes (t.source n).axes else []))).flatten

/-- The payload of a notice from the state as it stands (R203). REPORT carries the list of R203, and after it what other rules say that it
carries: the mast state (R89), the supply reading (R103) and the inhibit-reason set (R170). DESIGN CHOICE, log entry 34. The design
revision is one byte (log entry 9). -/
def noticePayload (s : State) : Notice → List Byte
  | .started => codeByte (some (resetCode s.notices.lastReset)) ++ smallByte 3 ++ flagByte s.store.storeBad ++ storeBytes s
  | .trip =>
    standingBytes s.trips ++ actionBytes s.action ++ codeByte (some (mastCode s.mast.state))
      ++ codeByte (some (mastOwnerCode s.mast.owner)) ++ codeByte (some (ownerCode s.pos.owner))
  | .violation => violationBytes s.violation s.more
  | .txChange => gateBytes s
  | .arrival => endBytes s
  | .searchDone => searchBytes s.search
  | .sequence =>
    codeByte (some (seqCode s.seq.state)) ++ deployBytes s.seq.deploy ++ failureBytes s.seq.failure
      ++ codeByte (some (ownerCode s.pos.owner)) ++ codeByte (some (mastOwnerCode s.mast.owner))
      ++ codeByte (some (mastCode s.mast.state)) ++ interruptedBytes s.mast ++ endBytes s
      ++ flagByte s.gate.request ++ codeByte (some (gateCode s.gate.state))
  | .report =>
    codeByte (some (seqCode s.seq.state)) ++ unsignedHalf s.extension ++ positionBytes s.pos.pan ++ positionBytes s.pos.tilt
      ++ positionBytes s.pos.pol ++ codeByte (some (gateCode s.gate.state)) ++ actionBytes s.action ++ unsignedHalf s.sense.windSpeed
      ++ codeByte (some (mastCode s.mast.state)) ++ optional 2 (s.supplyReading.map unsignedHalf) ++ reasonBytes s.reasons

/-- The kind byte of a notice: 0xE0 to 0xE7 in priority order (R198). -/
def noticeCode : Notice → Byte
  | .started => 0xE0
  | .trip => 0xE1
  | .violation => 0xE2
  | .txChange => 0xE3
  | .arrival => 0xE4
  | .searchDone => 0xE5
  | .sequence => 0xE6
  | .report => 0xE7

end Sys2Proof.Machine
end

