-- ==== Sys2Proof/Machine/Plant.lean ====
section
/-! DEFINITION. How the blocks act on one another: the ends of axis motions (R54, R57), slips and index edges (R65, R70), the combined
positioner action (R74, R75), the taking of the plant by a trip (R84, R156, R187), changes of the map (R38, R43, R75), and the
settling of all of these after an event. -/

namespace Sys2Proof.Machine

open Sys2Proof

/-! ## The end of an axis motion (R54, R57) -/

/-- An axis reports a last arrival status by its move origin (R54). -/
def State.reportEnd (s : State) (a : Axis) (st : Arrival) : State :=
  match (s.axis a).origin with
  | .console => s.raise .arrival
  | .trip => ({ s with pos := { s.pos with stowAwaits := s.pos.stowAwaits.set a false } }).raise .arrival
  | .search => s.handSearchEnd (s.searchAxisEnd st)
  | .sequence => s.seqAxisEnd a st

/-- An axis comes to REST, or to UNREF when it is unreferenced, with a last arrival status; a full AT_REST slot is transferred when it
enters REST (R57, R58, R60). -/
def State.axisEnds (s : State) (a : Axis) (st : Arrival) : State :=
  let x := s.axis a
  let t := s.setAxis a
    { x with
      motion := if x.referenced then .rest else .unref, lastArrival := some st, settleTimer := none, stallTimer := none }
  ((t.gateSync).reportEnd a st).atRestTransfer a

/-! ## Index edges and slips (R65, R70) -/

/-- An axis slips at an index edge (R65): it loses its reference and is stopped; one in REST stands in UNREF at once. Its STOPPED end, where
a search moved it last, reaches the engine before the SLIP cause takes the plant (R156; DESIGN CHOICE, log entry 25). -/
def State.slip (s : State) (a : Axis) (at_ : Int) (up : Bool) : State :=
  let x := s.axis a
  let t := s.setAxis a (slippedRec x at_ up)
  let u :=
    if moving x then t.stopAxis a .stopped
    else if x.motion = .rest then t.axisEnds a .stopped
    else t
  u.detect .slip (some a)

/-- An index edge is handed to its axis, with the position captured at it and the direction of motion there (R65, R68 to R70, R111);
`asserted` is the line's new level. A correction is no entry of the pan's own into another sector, so that a permit it withdraws leaves no
TX_SECTOR violation (DEDUCED, log entry 39). -/
def State.indexEdge (s : State) (a : Axis) (at_ : Int) (up asserted : Bool) : State :=
  let x := s.axis a
  match (if x.motion = .homing then x.homing else none) with
  | some h => s.homeEdge a at_ up asserted h
  | none =>
    if x.referenced = false then s
    else if ((s.axisSettings a).indexPosition - at_).natAbs ≤ 20 then (s.correctAt a at_ up).afterPosition a
    else s.slip a at_ up

/-! ## The combined positioner action (R74, R75) -/

/-- One axis of a trip stow that was refused: a held one leaves HELD, a moving one is stopped (R75). -/
def State.unstowed (s : State) (a : Axis) : State :=
  if (s.axis a).motion = .held then s.setAxis a (unholdRec (s.axis a)) else s.stopAxis a .stopped

/-- The positioner issues a trip's STOW (R75). -/
def State.tripStow (s : State) : State :=
  let r := s.stow .trip
  if r.2 then
    { r.1 with pos := { r.1.pos with stowUnrun := false, stowAwaits := { pan := true, tilt := true, pol := false } } }
  else
    let t := (r.1.unstowed .pan).unstowed .tilt
    { t with pos := { t.pos with stowUnrun := true, stowAwaits := {} } }

/-- The trip's STOW is issued again where it stands unrun (R75). -/
def State.retryStow (s : State) : State :=
  if s.pos.enacted = .stow ∧ s.pos.owner = .trip ∧ s.pos.stowUnrun = true then s.tripStow else s

/-- The combined positioner action becomes HOLD (R74). -/
def State.holdAll (s : State) : State :=
  let s := s.setOwner .trip
  { s with pos := { s.pos with
      pan := holdRec s.pos.pan, tilt := holdRec s.pos.tilt, pol := holdRec s.pos.pol
      enacted := .hold, stowUnrun := false, stowAwaits := {} } }

/-- The combined positioner action becomes STOW (R74, R75). -/
def State.beginTripStow (s : State) : State :=
  if s.pos.owner = .trip ∧ s.pos.enacted = .noAction ∧ s.pos.stowAwaits.isEmpty = false ∧ s.pos.stowUnrun = false then
    { s with pos := { s.pos with enacted := .stow } }
  else
    let s := { s with pos := { s.pos with enacted := .stow } }.setOwner .trip
    let s := if s.pos.pol.motion = .held then s.setAxis .pol (unholdRec s.pos.pol) else s.stopAxis .pol .stopped
    s.tripStow

/-- The combined positioner action becomes NONE (R74, R75). -/
def State.endPositionerTrip (s : State) : State :=
  let p :=
    if s.pos.enacted = .hold then
      { s.pos with pan := unholdRec s.pos.pan, tilt := unholdRec s.pos.tilt, pol := unholdRec s.pos.pol }
    else s.pos
  { s with pos := { p with enacted := .noAction } }

/-- The positioner enacts the combined action (R74, R75). -/
def State.posEnact (s : State) : State :=
  let want := s.action.positioner
  if want = s.pos.enacted then s
  else
    match want with
    | .hold => s.holdAll
    | .stow => s.beginTripStow
    | .noAction => s.endPositionerTrip

/-- A positioner that no trip action keeps returns to the console, once a running trip stow has ended (R74, R75). -/
def State.posReturn (s : State) : State :=
  if s.pos.owner = .trip ∧ s.pos.enacted = .noAction ∧ s.pos.stowAwaits.isEmpty = true then s.setOwner .console else s

/-! ## The taking of the plant by a trip (R84, R156, R187) -/

/-- Between two states a trip has taken the mast or the positioner: a running search and a running sequence end TRIPPED, the search first
(R187; DESIGN CHOICE, log entry 8). -/
def State.tripTook (s t : State) : State :=
  if (s.pos.owner ≠ .trip ∧ t.pos.owner = .trip) ∨ (s.mast.owner ≠ .trip ∧ t.mast.owner = .trip) then
    let u := if t.searching then
        t.handSearchEnd (if t.pos.owner = .trip then t.endSearch .tripped else t.cutSearch .tripped)
      else t
    u.seqTaken
  else t

/-! ## Settling after an event -/

/-- One round: the mast looks at its count and its limits, mast and positioner enact the combined action, what a trip has taken ends,
and the gate forms its state (R130). -/
def State.round (s : State) : State :=
  let a := handMast s.mastAdvance
  let b := a.mastEnact.posEnact
  ((a.tripTook b).posReturn).gateSync

/-- The state once every block has taken what an event handed on. Each round goes one hand-over further; no chain of hand-overs is
longer than four. -/
def State.reconcile (s : State) : State := s.round.round.round.round

/-! ## Changes of the map (R38, R43, R75) -/

/-- The consequences of a change to the effective map: the pan's move in flight is judged, and a trip stow that stood unrun is issued
again. -/
def State.mapChanged (s : State) : State :=
  let unrun := s.pos.stowUnrun
  let t := s.mapUnderMove
  if unrun then t.retryStow else t

/-! ## The encoder of an axis (R51, R57, R172) -/

/-- One count of an axis's encoder. -/
def State.axisCount (s : State) (a : Axis) (up : Bool) : State :=
  let before := s.sectorUnderPan
  let t := (s.setAxis a (countRec (s.axis a) up)).afterPosition a
  match a with
  | .pan =>
    let u := t.gateAfterPan before
    if u.gate.state = t.gate.state then u else u.seqGate
  | _ => t.gateSync

/-- A number of counts in one direction, one after the other. -/
def State.axisCounts (s : State) (a : Axis) (up : Bool) : Nat → State
  | 0 => s
  | n + 1 => (s.axisCount a up).axisCounts a up n

end Sys2Proof.Machine
end

