-- ==== Sys2Proof/Machine/LinkOps.lean ====
section
/-! DEFINITION. The Console Link's operations on replies, notices and the transmitter (R196 to R198), less the taking of frames. -/

namespace Sys2Proof.Machine

open Sys2Proof

/-! ## Answers -/

/-- What the owning block makes of a request (R196): the reply's status and the bytes after it, the state that the request leaves, and
what is still to come after the reply has been queued. -/
structure Answer where
  status : Status
  body : List Byte := []
  st : State
  after : After := .nothing
  restarts : Bool := false
  segmented : Bool := false

/-- A refusal: the status alone (R197). -/
def refuse (st : Status) (s : State) : Answer := { status := st, st := s }

/-- An acceptance. -/
def accept (s : State) (body : List Byte := []) : Answer := { status := .ok, body := body, st := s }

/-- OK, or CLAMPED where a clamp acted. -/
def okOr (clamped : Bool) : Status := if clamped then .clamped else .ok

/-- The status of a fully coded reply. -/
def statusByte (st : Status) : Byte := BitVec.ofNat 8 (statusCode st)

/-- Contents cut into pieces of 118 bytes, every one but the last full (R197); `fuel` bounds their number. -/
def pieces : Nat → List Byte → List (List Byte)
  | 0, _ => []
  | fuel + 1, bs => if bs.length ≤ 118 then [bs] else bs.take 118 :: pieces fuel (bs.drop 118)

/-- The payloads of a segmented reply: status, segment byte, contents (R197). -/
def segments (st : Status) (bs : List Byte) : List (List Byte) :=
  let ps := pieces 15 bs
  ps.mapIdx (fun k p => statusByte st :: BitVec.ofNat 8 (16 * (k + 1) + ps.length) :: p)

/-- The reply of an answer to a request of a kind and a tag (R196, R197). -/
def Answer.reply (a : Answer) (kind tag : Byte) : Reply :=
  { kind := kind + 0x80, tag := tag
    parts := if a.segmented then segments a.status a.body else [statusByte a.status :: a.body]
    restarts := a.restarts }

/-! ## The transmitter -/

/-- The time of a frame on the line, in hundredths of a byte time: its payload and six bytes more (R193). -/
def frameTime (payload : List Byte) : Nat := 100 * (payload.length + 6)

/-- The transmitter starts to send a reply (R198). -/
def State.sendReply (s : State) (r : Reply) : State :=
  match r.parts with
  | [] => s
  | p :: ps =>
    { s with link := { s.link with
        sending := some
          { frame := { kind := r.kind, tag := r.tag, payload := p }, rest := ps, restarts := r.restarts, left := frameTime p } } }

/-- An idle transmitter starts the oldest reply, if there is one (R198). -/
def State.kick (s : State) : State :=
  match s.link.sending, s.link.replies with
  | none, r :: rs => ({ s with link := { s.link with replies := rs } }).sendReply r
  | _, _ => s

/-- The transmitter starts to send a notice: its pending flag is cleared and its payload formed from the state as it stands (R198,
R204). -/
def State.sendNotice (s : State) (k : Notice) : State :=
  let payload := noticePayload s k
  { s with
    notices := { s.notices with pending := s.notices.pending &&& ~~~k.bit }
    link := { s.link with
      sending := some { frame := { kind := noticeCode k, tag := 0, payload := payload }, left := frameTime payload } } }

/-- An idle transmitter decides what to send: the oldest reply, or the eligible notice of highest priority (R198). -/
def State.arbitrate (s : State) : State :=
  match s.link.sending with
  | some _ => s
  | none =>
    match s.link.replies with
    | _ :: _ => s.kick
    | [] =>
      match s.notices.next with
      | some k => s.sendNotice k
      | none => s

/-! ## Queueing a reply -/

/-- The effects that an entry places after its reply has been queued (R61, R97, R98, R180, R188, R196). A mast that is no longer where the
request found it, by the time a waiting reply finds its place, is left as it is (log entry 28). -/
def State.runAfter (s : State) : After → State
  | .nothing => s
  | .atRest a => (s.atRestTransfer a).reconcile
  | .mastTo =>
    if s.mast.owner = .console ∧ (s.mast.state = .nested ∨ s.mast.state = .rest ∨ s.mast.state = .topping) then
      s.mastSetsOut.reconcile
    else s
  | .mastLower =>
    if s.mast.owner = .console ∧ s.mast.state ≠ .held ∧ s.mast.state ≠ .nested then s.lowerToNest.reconcile else s
  | .deploy => s.enterDeploy.reconcile
  | .stowAll => s.enterStowPositioner.reconcile

/-- The reply queue's room (R196). -/
def replyRoom : Nat := 4

/-- The receive queue's room (R195). -/
def frameRoom : Nat := 4

/-- A formed reply is queued, and the effects after it come about; or it waits for a place (R196). -/
def State.offerReply (s : State) (r : Reply) (after : After) : State :=
  if s.link.replies.length < replyRoom then
    ({ s with link := { s.link with replies := s.link.replies ++ [r] } }).kick.runAfter after
  else { s with link := { s.link with waiting := some (r, after) } }

/-- An answer goes out as the reply to a request of a kind and a tag; a RESTART stops the taking of frames (R196, R200). -/
def Answer.deliver (a : Answer) (kind tag : Byte) : State :=
  let s := if a.restarts then { a.st with link := { a.st.link with restarting := true } } else a.st
  s.offerReply (a.reply kind tag) a.after

/-- The link takes a frame now: no taken request waits, and no RESTART has been taken (R196, R200). -/
def State.linkTakes (s : State) : Bool := s.link.waiting.isNone && !s.link.restarting

/-- A complete frame joins the receive queue, or is discarded where it is full (R195). -/
def State.joinQueue (s : State) (f : Frame) : State :=
  if s.link.queue.length < frameRoom then { s with link := { s.link with queue := s.link.queue ++ [f] } } else s

/-- The newest reply that the link has formed: one that waits for a place, the last of the queue, or the one being sent. -/
def State.newestReply (s : State) : Option (Byte × Byte × List Byte) :=
  match s.link.waiting with
  | some (r, _) => some (r.kind, r.tag, r.parts.headD [])
  | none =>
    match s.link.replies.getLast? with
    | some r => some (r.kind, r.tag, r.parts.headD [])
    | none => s.link.sending.map (fun f => (f.frame.kind, f.frame.tag, f.frame.payload))

end Sys2Proof.Machine
end

