-- ==== Sys2Proof/Machine/AxisRequests.lean ====
section
/-! DEFINITION. The requests of the Positioner Controller (R61 to R79), each as the answer it is given. -/

namespace Sys2Proof.Machine

open Sys2Proof

/-- Checks 2 and 3 of R55 for a request from the console. -/
def State.axisRefusal (s : State) : Option Status :=
  if s.positionerInForce then some .tripped else if s.pos.owner ≠ .console then some .busy else none

/-- The position that an AXIS_TARGET names, brought into the aiming travel; none where it is refused (R61). -/
def targetOf (a : Axis) (p : Int) : Option Int :=
  match a with
  | .pan => if -20000 ≤ p ∧ p ≤ 20000 then some p else none
  | .tilt => some (clampInt (-500) 4500 p)
  | .pol => some (clampInt (-9500) 9500 p)

/-- AXIS_TARGET (R61). -/
def answerAxisTarget (axis : Byte) (position : Half) (s : State) : Answer :=
  match axisOf axis with
  | none => refuse .range s
  | some a =>
    match s.axisRefusal with
    | some st => refuse st s
    | none =>
      match targetOf a position.toInt with
      | none => refuse .range s
      | some t =>
        let status := okOr (decide (t ≠ position.toInt))
        if (s.axisSettings a).moment = .immediate then
          match s.transferRefusal a t with
          | some st => refuse st (s.noteRefusal st t)
          | none => { status := status, st := (s.startMove a t .console).reconcile }
        else
          { status := status
            st := s.setAxis a { s.axis a with slot := some t }
            after := if (s.axisSettings a).moment = .atRest ∧ (s.axis a).motion = .rest then .atRest a else .nothing }

/-- A full slot under a new moment (R62). -/
def State.momentChanged (s : State) (a : Axis) : State :=
  match (s.axisSettings a).moment with
  | .immediate => s.pendingTransfer a
  | .atRest => s.atRestTransfer a
  | _ => s

/-- AXIS_MOMENT (R62). -/
def answerAxisMoment (axis moment : Byte) (s : State) : Answer :=
  match axisOf axis, momentOf moment with
  | some a, some m =>
    match s.axisRefusal with
    | some st => refuse st s
    | none => accept ((s.setAxisSettings a { s.axisSettings a with moment := m }).momentChanged a).reconcile
  | _, _ => refuse .range s

/-- The axes that a SYNC gathers, with their slots (R63). -/
def State.gathered (s : State) : List (Axis × Int) :=
  allAxes.filterMap (fun a =>
    if (s.axisSettings a).moment = .onSync then (s.axis a).slot.map (fun t => (a, t)) else none)

/-- The first refusal of a list of transfers (R63). -/
def State.firstRefusal (s : State) : List (Axis × Int) → Option (Status × Int)
  | [] => none
  | (a, t) :: ps =>
    match s.transferRefusal a t with
    | some st => some (st, t)
    | none => s.firstRefusal ps

/-- The transfers of a SYNC, made together (R63). -/
def State.syncAll (s : State) : List (Axis × Int) → State
  | [] => s
  | (a, t) :: ps => ((s.setAxis a { s.axis a with slot := none }).startMove a t .console).syncAll ps

/-- SYNC (R63). -/
def answerSync (s : State) : Answer :=
  match s.axisRefusal with
  | some st => refuse st s
  | none =>
    match s.firstRefusal s.gathered with
    | some (st, t) => refuse st (s.noteRefusal st t)
    | none => accept (s.syncAll s.gathered).reconcile

/-- One axis of an AXIS_STOP: its slot is emptied and it is stopped (R77). -/
def State.haltAxis (s : State) (a : Axis) : State := (s.setAxis a { s.axis a with slot := none }).stopAxis a .stopped

/-- AXIS_STOP (R77). -/
def answerAxisStop (axis : Byte) (s : State) : Answer :=
  match axesOf axis with
  | none => refuse .range s
  | some as =>
    match s.axisRefusal with
    | some st => refuse st s
    | none => accept (as.foldl State.haltAxis s).reconcile

/-- A JOG on an axis that its state admits (R72). -/
def State.jogAnswer (s : State) (a : Axis) (positive fast : Bool) : Answer :=
  let x := s.axis a
  if x.referenced = false then accept (s.startJog a positive fast none).reconcile
  else if atTravelEnd a x.position positive then refuse .range s
  else
    match s.jogEndOf a positive with
    | (e, some k) =>
      if e = x.position then refuse .blocked (s.recordViolation .pathBlocked k x.position)
      else accept (s.startJog a positive fast (some e)).reconcile
    | (e, none) => accept (s.startJog a positive fast (some e)).reconcile

/-- JOG (R72). -/
def answerJog (axis direction speed : Byte) (s : State) : Answer :=
  match axisOf axis, directionOf direction, speedOf speed with
  | some a, some positive, some fast =>
    match s.axisRefusal with
    | some st => refuse st s
    | none =>
      if s.mastReady = false then refuse .lowMast s
      else
        match (s.axis a).motion with
        | .rest | .unref | .jogging => s.jogAnswer a positive fast
        | _ => refuse .state s
  | _, _, _ => refuse .range s

/-- HOME (R67). -/
def answerHome (axis : Byte) (s : State) : Answer :=
  match axisOf axis with
  | none => refuse .range s
  | some a =>
    match s.axisRefusal with
    | some st => refuse st s
    | none =>
      match s.homeRefusal a with
      | some st => refuse st (s.noteRefusal st (s.axisSettings a).indexPosition)
      | none => accept (s.startHome a .console).reconcile

/-- STOW (R71). -/
def answerStow (s : State) : Answer :=
  match s.axisRefusal with
  | some st => refuse st s
  | none =>
    let r := s.stow .console
    if r.2 then accept r.1.reconcile else refuse .blocked r.1

/-- AXIS_READ (R78). -/
def answerAxisRead (axis : Byte) (s : State) : Answer :=
  match axisOf axis with
  | none => refuse .range s
  | some a => accept s (axisBytes s a)

/-- SLEW_SET (R79). -/
def answerSlewSet (axis slewClass : Byte) (s : State) : Answer :=
  match axisOf axis, slewClassOf slewClass with
  | some a, some c =>
    if s.lock then refuse .locked s else accept (s.setAxisSettings a { s.axisSettings a with slewClass := c })
  | _, _ => refuse .range s

/-- INDEX_SET (R66). -/
def answerIndexSet (axis : Byte) (position : Half) (s : State) : Answer :=
  match axisOf axis with
  | none => refuse .range s
  | some a =>
    if position.toInt < (indexRange a).1 ∨ (indexRange a).2 < position.toInt then refuse .range s
    else if s.lock then refuse .locked s
    else accept (s.setAxisSettings a { s.axisSettings a with indexPosition := position.toInt })

end Sys2Proof.Machine
end

