-- ==== Sys2Proof/Machine/GateRequests.lean ====
section
/-! DEFINITION. The requests of the Transmit Gate (R173, R174) and of the Sequence Controller (R179, R180, R188, R190, R191), each as
the answer it is given. -/

namespace Sys2Proof.Machine

open Sys2Proof

/-! ## The Transmit Gate -/

/-- A TX_REQUEST from the console: the flag, the gate state, and the hand-over of its change (R173, R185). -/
def State.requestGate (s : State) (on : Bool) : State :=
  if s.gate.request = on then s
  else
    let t := s.setRequest on
    (if t.gate.state = s.gate.state then t else t.seqGate).reconcile

/-- TX_REQUEST (R173). -/
def answerTxRequest (choice : Byte) (s : State) : Answer :=
  match choiceOf choice with
  | none => refuse .range s
  | some on => accept (s.requestGate on) (gateBytes (s.requestGate on))

/-- TX_READ (R174). -/
def answerTxRead (s : State) : Answer := accept s (gateReadBytes s)

/-! ## The Sequence Controller -/

/-- Checks 3 to 8 of R179. -/
def State.deployRefusal (s : State) (site : Nat) : Option Status :=
  if ¬ (s.seq.state = .idle ∨ s.seq.state = .deployed ∨ s.seq.state = .failed ∨ s.seq.state = .aborted) then some .busy
  else if s.positionerInForce ∨ s.mastInForce s.mast.situation ∨ s.mastInForce .raising then some .tripped
  else if (if s.seq.state = .deployed then s.pos.owner ≠ .sequence ∨ s.mast.owner ≠ .sequence
      else s.pos.owner ≠ .console ∨ s.mast.owner ≠ .console) then some .busy
  else if (match s.fix with | none => true | some f => !f.headingPresent) then some .noFix
  else if (s.site? site).isNone then some .noSite
  else if (s.mast.state ≠ .nested ∧ s.mast.state ≠ .rest)
      ∨ allAxes.any (fun a => decide ((s.axis a).motion ≠ .rest ∧ (s.axis a).motion ≠ .unref)) then some .state
  else none

/-- The option flags of a DEPLOY, SEARCH, TX and TRACK; none where the set has another bit (R179). -/
def optionsOf (v : Half) : Option (Bool × Bool × Bool) :=
  if 7 < v.toNat then none else some (v.getLsbD 0, v.getLsbD 1, v.getLsbD 2)

/-- Steps 1 to 3 of an accepted DEPLOY (R180). -/
def State.deployTakes (s : State) (d : DeployRec) : State :=
  let s := { s with
    seq := { s.seq.noWait with deploy := some d, failure := none }
    tracking := { s.tracking with site := some d.site } }
  let s := s.setOwner .sequence
  { s with mast := { s.mast with owner := .sequence } }

/-- DEPLOY (R179, R180). -/
def answerDeploy (site : Byte) (height options interval : Half) (s : State) : Answer :=
  let h := min height.toNat s.raiseLimit
  match optionsOf options with
  | none => refuse .range s
  | some (search, tx, track) =>
    if 15 < site.toNat ∨ h < s.work.mast.clearance then refuse .range s
    else
      match s.deployRefusal site.toNat with
      | some st => refuse st s
      | none =>
        let v := intervalOf interval
        { status := okOr (decide (h ≠ height.toNat) || (track && v.2))
          st := s.deployTakes
            { site := site.toNat, height := h, search := search, tx := tx, track := track, interval := if track then v.1 else 0 }
          after := .deploy }

/-- The checks of a STOW_ALL (R188). -/
def State.stowAllRefusal (s : State) : Option Status :=
  if s.positionerInForce ∨ s.mastInForce s.mast.situation then some .tripped
  else if s.seq.state = .stowPositioner ∨ s.seq.state = .stowMast ∨ s.pos.owner = .trip ∨ s.mast.owner = .trip then some .busy
  else none

/-- Steps 1 to 6 of an accepted STOW_ALL (R188). A pol and a mast in SETTLING count as moving (DEDUCED, log entry 22). The sequence is IDLE between
them and its entry into STOW_POSITIONER. -/
def State.stowAllTakes (s : State) : State :=
  let s := (s.setRequest false).trackOff
  let s := if s.searching then s.cutSearch .aborted else s
  let s := { s with seq := { s.seq.noWait with state := .idle, failure := none, awaits := {}, issued := false } }
  let s := s.setOwner .sequence
  let s := { s with mast := { s.mast with owner := .sequence } }
  (s.stopAxis .pol .stopped).mastStop

/-- STOW_ALL (R188). -/
def answerStowAll (s : State) : Answer :=
  match s.stowAllRefusal with
  | some st => refuse st s
  | none => { status := .ok, st := s.stowAllTakes, after := .stowAll }

/-- Step 5 of a HALT for the positioner (R190): the sequence's, the search's, and a running trip stow's go back to the console. -/
def State.haltPositioner (s : State) : State :=
  match s.pos.owner with
  | .sequence | .search => s.setOwner .console
  | .trip =>
    if s.pos.enacted ≠ .hold ∧ s.pos.stowAwaits.isEmpty = false then
      { s with pos := { s.pos with owner := .console, enacted := .noAction, stowUnrun := false, stowAwaits := {} } }
    else s
  | .console => s

/-- Step 5 of a HALT for the mast (R190): all but a HELD mast go back to the console. -/
def State.haltMast (s : State) : State :=
  if s.mast.owner = .trip ∧ s.mast.state = .held then s else { s with mast := { s.mast with owner := .console } }

/-- HALT's steps 1 to 5 (R190). -/
def State.haltPlant (s : State) : State :=
  let s := if s.searching then s.cutSearch .aborted else s
  let s := if s.sequencing then { s with seq := s.seq.noWait }.seqEnter .aborted else s
  let s := ({ s with pos := s.pos.emptySlots }).stopAll
  s.mastStop.haltPositioner.haltMast

/-- HALT (R190). -/
def answerHalt (s : State) : Answer := accept s.haltPlant.reconcile

/-- SEQ_READ (R191). -/
def answerSeqRead (s : State) : Answer := accept s (seqBytes s)

end Sys2Proof.Machine
end

