-- ==== Sys2Proof/Machine/Map.lean ====
section
/-! DEFINITION. The requests of the Sector Map (R42 to R49), each as the answer it is given. -/

namespace Sys2Proof.Machine

open Sys2Proof

/-- The record that a MAP_WRITE writes; none where its attribute or height is refused (R42, checks 4 and 5). -/
def writtenRec (attr : Byte) (height : Half) : Option SectorRec :=
  match attrOf attr with
  | some .shadow => if 1 ≤ height.toNat ∧ height.toNat ≤ 20000 then some { attr := .shadow, height := height.toNat } else none
  | some t => some { attr := t, height := 0 }
  | none => none

/-- The map settings after an accepted MAP_WRITE (R42). -/
def MapSettings.written (m : MapSettings) (body : Bool) (first count : Nat) (r : SectorRec) : MapSettings :=
  if body then { m with body := writeRun first count r m.body } else { m with survey := writeRun first count r m.survey }

/-- The state with other map settings. -/
def State.withMap (s : State) (m : MapSettings) : State := { s with work := { s.work with map := m } }

/-- MAP_WRITE (R42, R43). -/
def answerMapWrite (layer first count attr : Byte) (height : Half) (s : State) : Answer :=
  match layerOf layer with
  | some .body | some .survey =>
    let body := decide (layer = 0)
    if 71 < first.toNat then refuse .range s
    else if count.toNat = 0 ∨ 72 < count.toNat then refuse .range s
    else
      match writtenRec attr height with
      | none => refuse .range s
      | some r =>
        if body = true ∧ s.lock = true then refuse .locked s
        else if r.attr = .blocked ∧ inRun first.toNat count.toNat s.work.map.stowSector = true then refuse .range s
        else accept (s.withMap (s.work.map.written body first.toNat count.toNat r)).mapChanged.reconcile
  | _ => refuse .range s

/-- MAP_READ (R44). -/
def answerMapRead (layer first count : Byte) (s : State) : Answer :=
  match layerOf layer with
  | none => refuse .range s
  | some l =>
    if 71 < first.toNat ∨ count.toNat = 0 ∨ 36 < count.toNat then refuse .range s
    else accept s (mapBytes s l first.toNat count.toNat)

/-- CEILING_SET (R45, R87). -/
def answerCeilingSet (height : Half) (s : State) : Answer :=
  if height.toNat = 0 ∨ (1000 ≤ height.toNat ∧ height.toNat ≤ 20000) then
    accept ((s.withMap { s.work.map with ceiling := height.toNat }).limitHanded s.raiseLimit).reconcile
  else refuse .range s

/-- STOW_AZIMUTH (R46). -/
def answerStowAzimuth (z : Half) (s : State) : Answer :=
  if 35999 < z.toNat then refuse .range s
  else if s.lock then refuse .locked s
  else if (s.work.map.bodyRec (sectorOf z.toNat)).attr = .blocked ∨ (s.work.map.surveyRec (sectorOf z.toNat)).attr = .blocked then
    refuse .range s
  else accept (s.withMap { s.work.map with stowAzimuth := z.toNat }).mapChanged.reconcile

/-- BODY_LOCK (R47). -/
def answerBodyLock (s : State) : Answer := accept { s with lock := true }

/-- VIOLATION_READ (R48). -/
def answerViolationRead (s : State) : Answer := accept s (violationBytes s.violation s.more)

/-- VIOLATION_ACK (R49). -/
def answerViolationAck (s : State) : Answer :=
  accept { s with violation := none, more := false } (violationBytes s.violation s.more)

end Sys2Proof.Machine
end

