-- ==== Sys2Proof/Machine/MastRequests.lean ====
section
/-! DEFINITION. The requests of the Mast Controller (R97 to R101), each as the answer it is given. -/

namespace Sys2Proof.Machine

open Sys2Proof

/-- MAST_TO (R85, R97). -/
def answerMastTo (height : Half) (s : State) : Answer :=
  let h := min height.toNat s.raiseLimit
  match s.mastRefusal .console (s.wouldBe h) true with
  | some st => refuse st s
  | none =>
    match s.mastToRefusal with
    | some st => refuse st s
    | none => { status := okOr (decide (h ≠ height.toNat)), st := s.mastTakes h .console, after := .mastTo }

/-- MAST_LOWER (R85, R98). -/
def answerMastLower (s : State) : Answer :=
  match s.mastRefusal .console (some .lowering) true with
  | some st => refuse st s
  | none =>
    if s.mast.state = .nested then accept s
    else { status := .ok, st := s.lowerTakes .console, after := .mastLower }

/-- MAST_STOP (R85, R99). -/
def answerMastStop (s : State) : Answer :=
  match s.mastRefusal .console none false with
  | some st => refuse st s
  | none => accept s.mastStop.reconcile

/-- MAST_READ (R100). -/
def answerMastRead (s : State) : Answer := accept s (mastBytes s)

/-- The range of a mast setting (R83). -/
def mastRange : MastSetting → Nat × Nat
  | .maxExtension => (1000, 15000)
  | .stowedPivot => (1500, 5000)
  | .clearance => (500, 5000)
  | .stopLead => (0, 300)
  | .tolerance => (10, 200)
  | .sagAllowance => (50, 500)

/-- A mast setting that the lock freezes (R83). -/
def mastFrozen : MastSetting → Bool
  | .maxExtension | .stowedPivot | .clearance => true
  | _ => false

/-- The mast settings with one of them replaced (R101). -/
def MastSettings.write (m : MastSettings) (n : MastSetting) (v : Nat) : MastSettings :=
  match n with
  | .maxExtension => { m with maxExtension := v }
  | .stowedPivot => { m with stowedPivot := v }
  | .clearance => { m with clearance := v }
  | .stopLead => { m with stopLead := v }
  | .tolerance => { m with tolerance := v }
  | .sagAllowance => { m with sagAllowance := v }

/-- A value that a setting refuses RANGE (R101, check 2). -/
def State.mastValueRefused (s : State) (n : MastSetting) (v : Nat) : Bool :=
  decide (v < (mastRange n).1 ∨ (mastRange n).2 < v)
    || (decide (n = .clearance) && decide (s.work.mast.maxExtension < v))
    || (decide (n = .maxExtension) && decide (v < s.work.mast.clearance))

/-- What a setting that has been replaced sets off (R101). -/
def State.mastSettingWritten (s : State) (n : MastSetting) (oldLimit : Nat) : State :=
  match n with
  | .maxExtension | .stowedPivot => s.limitHanded oldLimit
  | .clearance => s.clearanceWritten
  | _ => s

/-- MAST_PARAM (R101). -/
def answerMastParam (name : Byte) (value : Half) (s : State) : Answer :=
  match mastSettingOf name with
  | none => refuse .range s
  | some n =>
    if s.mastValueRefused n value.toNat then refuse .range s
    else if mastFrozen n = true ∧ s.lock = true then refuse .locked s
    else
      accept (({ s with work := { s.work with mast := s.work.mast.write n value.toNat } }).mastSettingWritten n
        s.raiseLimit).reconcile

end Sys2Proof.Machine
end

