-- ==== Sys2Proof/Machine/NoticeRequests.lean ====
section
/-! DEFINITION. The requests of the Notice Unit and the interval timers (R205 to R210), of the link (R199, R200) and of the Settings
Store (R214), each as the answer it is given. -/

namespace Sys2Proof.Machine

open Sys2Proof

/-! ## The Notice Unit -/

/-- An acceptance that carries the notice status as it stands after the request has acted (spec/11). -/
def acceptNotices (s : State) (n : Notices) : Answer := accept { s with notices := n } (noticeBytes n)

/-- NOTICE_MASK (R205): with hush off the working masks alone are replaced, although step 13 of the worked example 11.5 shows the saved masks
replaced too (DESIGN CHOICE, log entry 43). -/
def answerNoticeMask (kinds : Half) (s : State) : Answer :=
  match noticeSetOf kinds with
  | none => refuse .range s
  | some v =>
    acceptNotices s (if s.notices.hush then { s.notices with savedMasks := v } else { s.notices with masks := v })

/-- HUSH (R206). -/
def answerHush (s : State) : Answer :=
  acceptNotices s
    (if s.notices.hush then s.notices
     else { s.notices with savedMasks := s.notices.masks, masks := 0xFF, hush := true })

/-- UNHUSH (R206). -/
def answerUnhush (s : State) : Answer :=
  acceptNotices s (if s.notices.hush then { s.notices with masks := s.notices.savedMasks, hush := false } else s.notices)

/-- PENDING_CLEAR (R207). -/
def answerPendingClear (kinds : Half) (s : State) : Answer :=
  match noticeSetOf kinds with
  | none => refuse .range s
  | some v => acceptNotices s { s.notices with pending := s.notices.pending &&& ~~~v }

/-! ## The interval timers -/

/-- An interval timer of the state (R208). -/
def State.timer (s : State) : TimerName → IntervalTimer
  | .report => s.report
  | .track => s.trackTimer

/-- The state with another interval timer. -/
def State.setTimer (s : State) (n : TimerName) (t : IntervalTimer) : State :=
  match n with
  | .report => { s with report := t }
  | .track => { s with trackTimer := t }

/-- TIMER_SET (R209). -/
def answerTimerSet (timer mode : Byte) (interval : Half) (s : State) : Answer :=
  match timerOf timer, timerModeOf mode with
  | some n, some m =>
    { status := okOr (intervalOf interval).2
      st := s.setTimer n { mode := m, interval := (intervalOf interval).1, elapsed := 0, elapsedMs := 0 } }
  | _, _ => refuse .range s

/-- TIMER_READ (R210). -/
def answerTimerRead (timer : Byte) (s : State) : Answer :=
  match timerOf timer with
  | none => refuse .range s
  | some n => accept s (timerBytes (s.timer n))

/-! ## The link and the store -/

/-- IDENT (R199). -/
def answerIdent (s : State) : Answer := accept s (identBytes s)

/-- RESTART, at its take (R200). -/
def answerRestart (s : State) : Answer := { status := .ok, st := s, restarts := true }

/-- The configuration of a source as TRIP_CONFIG last wrote it (R135). -/
def lastWritten (r : SourceRec) : TripConfig := r.staged.getD r.config

/-- The configurations of the five configurable sources as last written (R135). -/
def Trips.settings (t : Trips) : TripSettings :=
  { wind := lastWritten t.wind, tilt := lastWritten t.tilt, supply := lastWritten t.supply
    pressure := lastWritten t.pressure, aux := lastWritten t.aux }

/-- A snapshot of every working setting (R212, R214); the image holds no learned-offset group. -/
def State.takeSnapshot (s : State) : Settings :=
  { work := s.work, sites := s.sites.map (fun r => { r with learned := none }), trips := s.trips.settings }

/-- The time that the write of an image takes, in ms (R214). -/
def saveMs : Nat := 800

/-- SAVE (R214). -/
def answerSave (s : State) : Answer :=
  if s.store.snapshot.isSome then refuse .busy s
  else accept { s with store := { s.store with snapshot := some s.takeSnapshot, saveTimer := some saveMs } }

end Sys2Proof.Machine
end

