-- ==== Sys2Proof/Machine/Resets.lean ====
section
/-! DEFINITION. The resets (R7, R50, R80, R102, R120, R140, R165, R175, R192, R202, R211, R213, R215 to R217): POR and the RESET line,
which keep only the image, and RESTART, which keeps the working state. -/

namespace Sys2Proof.Machine

open Sys2Proof

/-! ## The lines (R110, R120) -/

/-- A line at a reset: the debounced level is the raw level, and a capture in progress is dropped. -/
def resetLineRec (r : LineRec) : LineRec := { raw := r.raw, level := r.raw, timer := none, captured := none }

/-- The twelve lines at a reset. -/
def Lines.reset (l : Lines) : Lines :=
  { estop := resetLineRec l.estop, brake := resetLineRec l.brake, drive := resetLineRec l.drive
    pressure := resetLineRec l.pressure, aux := resetLineRec l.aux, nest := resetLineRec l.nest
    panStow := resetLineRec l.panStow, tiltStow := resetLineRec l.tiltStow, wrap := resetLineRec l.wrap
    panIndex := resetLineRec l.panIndex, tiltIndex := resetLineRec l.tiltIndex, polIndex := resetLineRec l.polIndex }

/-- The front end at a reset, under the settings that it then has (R120). -/
def resetSense (x : SenseSettings) : Sense := { gust := gustLoad x }

/-- The notices at a reset: all clear, then STARTED (R211). -/
def resetNotices (k : ResetKind) : Notices := { pending := Notice.started.bit, lastReset := k }

/-- Every level cause of the lines is judged afresh, and what is present takes the plant (R140). -/
def State.judgedAfresh (s : State) : State := s.judgeLines.reconcile

/-! ## POR and the RESET line (R213) -/

/-- The image loads: its CRC matches, and no write has been cut off (R213, R215). -/
def Store.loads (x : Store) : Bool := x.imageGood && x.snapshot.isNone

/-- The settings that a POR or the RESET line loads (R213). -/
def Store.loaded (x : Store) : Settings := if x.loads then x.image else factorySettings

/-- The mast at a POR or the RESET line (R102). -/
def resetMast (nested : Bool) : Mast :=
  { referenced := nested, state := if nested then .nested else .unref }

/-- Every block's values at a POR or the RESET line, before the causes are judged. -/
def State.cold (k : ResetKind) (s : State) : State :=
  let settings := s.store.loaded
  { pending := s.pending
    work := settings.work
    sites := settings.sites
    fix := none
    fixNumber := 0
    solution := {}
    lock := false
    violation := none
    more := false
    pos := {}
    mast := resetMast s.lines.nest.raw
    sense := resetSense settings.work.sense
    lines := s.lines.reset
    trips := clearTrips settings.trips
    search := {}
    tracking := {}
    gate := {}
    seq := {}
    link := {}
    notices := resetNotices k
    report := {}
    trackTimer := {}
    store := { image := s.store.image, imageGood := s.store.loads, storeBad := !s.store.loads } }

/-- A POR or the RESET line (R201, R213). -/
def State.coldReset (s : State) (k : ResetKind) : State := (s.cold k).judgedAfresh

/-! ## RESTART (R200) -/

/-- An axis at a RESTART (R80). -/
def restartAxis (x : AxisRec) : AxisRec :=
  { referenced := x.referenced
    position := x.position
    motion := if x.referenced then .rest else .unref
    target := if x.referenced then x.position else 0
    lastArrival := if moving x then some .stopped else x.lastArrival
    capture := x.capture
    movedUp := x.movedUp }

/-- The positioner at a RESTART (R80). -/
def restartPositioner (p : Positioner) : Positioner :=
  { pan := restartAxis p.pan, tilt := restartAxis p.tilt, pol := restartAxis p.pol }

/-- A RESTART ends a motion of the mast (R102). -/
def Mast.inMotion (m : Mast) : Bool :=
  match m.state with
  | .raising | .lowering | .clearWait | .settling | .nudging | .topping => true
  | _ => false

/-- The mast at a RESTART, with NEST as the reset reads it and whether NEST closed just then (R82, R102). -/
def restartMast (m : Mast) (nested closes : Bool) : Mast :=
  let referenced := m.referenced || closes
  let counter := if closes then 0 else m.counter
  { counter := counter
    referenced := referenced
    state := if nested then .nested else if referenced then .rest else .unref
    target := if referenced then 2 * counter else 0
    outcome := if m.inMotion then some .stopped else m.outcome }

/-- Every block's values at a RESTART, before the causes are judged. -/
def State.warm (s : State) : State :=
  { s with
    solution := {}
    violation := none
    more := false
    pos := restartPositioner s.pos
    mast := restartMast s.mast s.lines.nest.raw (s.lines.nest.raw && !s.lines.nest.level)
    sense := resetSense s.work.sense
    lines := s.lines.reset
    trips := clearTrips s.trips.settings
    search := {}
    tracking := {}
    gate := {}
    seq := {}
    link := {}
    notices := resetNotices .restart
    report := {}
    trackTimer := {} }

/-- The effects of a RESTART, when its reply has left the line (R200). -/
def State.restartEffects (s : State) : State := s.warm.judgedAfresh

end Sys2Proof.Machine
end

