-- ==== Sys2Proof/Machine/SearchRequests.lean ====
section
/-! DEFINITION. The requests of the Peak Search Engine (R143, R161 to R164), each as the answer it is given. -/

namespace Sys2Proof.Machine

open Sys2Proof

/-- SEARCH (R143 to R145). -/
def answerSearch (kind origin site : Byte) (s : State) : Answer :=
  match searchKindOf kind, searchOriginOf origin site.toNat with
  | some k, some o =>
    if 15 < site.toNat then refuse .range s
    else
      match s.searchRefusal .console site.toNat with
      | some st => refuse st s
      | none =>
        let r := s.startSearch k o site.toNat
        { status := r.2, st := if r.2 = .ok then r.1.reconcile else r.1 }
  | _, _ => refuse .range s

/-- SEARCH_ABORT (R155, R161). -/
def answerSearchAbort (s : State) : Answer :=
  if s.searching then accept (s.handSearchEnd (s.cutSearch .aborted)).reconcile else refuse .state s

/-- SEARCH_READ (R162). -/
def answerSearchRead (s : State) : Answer := accept s (searchReadBytes s)

/-- A signed number brought into a range of whole numbers from `lo` to `hi`. -/
def clampTo (lo hi : Nat) (x : Int) : Nat := (clampInt lo hi x).toNat

/-- The profile that a SEARCH_PARAM writes: six values clamped, and the minimum step not above the initial step (R163). -/
def clampedProfile (initialStep minStep margin dwell : Half) (samples budget : Byte) (radius : Half) : Profile :=
  let i := clampTo 5 500 initialStep.toInt
  { initialStep := i
    minStep := min i (clampTo 5 100 minStep.toInt)
    margin := clampNat 0 255 margin.toNat
    dwell := clampNat 50 2000 dwell.toNat
    samples := samples.toNat
    budget := clampNat 8 60 budget.toNat
    radius := clampTo 50 1000 radius.toInt }

/-- A clamp changed one of the values of a SEARCH_PARAM (R163). -/
def profileClamped (initialStep minStep margin dwell : Half) (budget : Byte) (radius : Half) (p : Profile) : Bool :=
  decide ((p.initialStep : Int) ≠ initialStep.toInt ∨ (p.minStep : Int) ≠ minStep.toInt ∨ p.margin ≠ margin.toNat
    ∨ p.dwell ≠ dwell.toNat ∨ p.budget ≠ budget.toNat ∨ (p.radius : Int) ≠ radius.toInt)

/-- The state with another stored profile (R163). -/
def State.withProfile (s : State) (k : SearchKind) (p : Profile) : State :=
  match k with
  | .acquire => { s with work := { s.work with acquire := p } }
  | .track => { s with work := { s.work with track := p } }

/-- SEARCH_PARAM (R163). -/
def answerSearchParam (profile : Byte) (initialStep minStep margin dwell : Half) (samples budget : Byte) (radius : Half)
    (s : State) : Answer :=
  match searchKindOf profile with
  | none => refuse .range s
  | some k =>
    if samples = 4 ∨ samples = 8 ∨ samples = 16 ∨ samples = 32 then
      let p := clampedProfile initialStep minStep margin dwell samples budget radius
      { status := okOr (profileClamped initialStep minStep margin dwell budget radius p), st := s.withProfile k p }
    else refuse .range s

/-- TRACK (R164). -/
def answerTrack (choice : Byte) (interval : Half) (s : State) : Answer :=
  match choiceOf choice with
  | none => refuse .range s
  | some true => { status := okOr (intervalOf interval).2, st := s.trackOn (intervalOf interval).1 }
  | some false => accept s.trackOff

end Sys2Proof.Machine
end

