-- ==== Sys2Proof/Machine/SensingRequests.lean ====
section
/-! DEFINITION. The requests of the Sensing Front End (R116 to R119), each as the answer it is given. -/

namespace Sys2Proof.Machine

open Sys2Proof

/-- The state with other settings of the front end. -/
def State.withSense (s : State) (x : SenseSettings) : State := { s with work := { s.work with sense := x } }

/-- SENSE_READ (R116). -/
def answerSenseRead (s : State) : Answer := accept s (senseBytes s)

/-- LEVEL_HERE (R117): both zeros at the present filter means, or STATE where a filter is empty. -/
def levelHere (s : State) : Answer :=
  match meanOf s.sense.pitch, meanOf s.sense.roll with
  | some p, some r => accept (s.withSense { s.work.sense with pitchZero := p, rollZero := r }).judgeTilt.reconcile
  | _, _ => refuse .state s

/-- CAL_SET (R117). -/
def answerCalSet (item : Byte) (value : Half) (s : State) : Answer :=
  let x := s.work.sense
  let v := value.toNat
  let g := clampNat 1 4096 v
  match calItemOf item with
  | none => refuse .range s
  | some .pitchZero =>
    if 4095 < v then refuse .range s else accept (s.withSense { x with pitchZero := v }).judgeTilt.reconcile
  | some .rollZero =>
    if 4095 < v then refuse .range s else accept (s.withSense { x with rollZero := v }).judgeTilt.reconcile
  | some .pitchGain =>
    { status := okOr (decide (g ≠ v)), st := (s.withSense { x with pitchGain := g }).judgeTilt.reconcile }
  | some .rollGain =>
    { status := okOr (decide (g ≠ v)), st := (s.withSense { x with rollGain := g }).judgeTilt.reconcile }
  | some .supplyScale =>
    if v = 0 ∨ 4096 < v then refuse .range s
    else accept (s.withSense { x with supplyScale := v }).judgeSupply.reconcile
  | some .pressurePolarity =>
    match polarityOf value with
    | none => refuse .range s
    | some p => accept (s.withSense { x with pressurePolarity := p }).judgeLines.reconcile
  | some .auxPolarity =>
    match polarityOf value with
    | none => refuse .range s
    | some p => accept (s.withSense { x with auxPolarity := p }).judgeLines.reconcile
  | some .levelHere => levelHere s

/-- LIMIT_SET (R118). Each cause is its own event: the TILT cause is judged and its action enacted, then the SUPPLY cause (R130; the order of
the two is a DESIGN CHOICE, log entry 8). -/
def answerLimitSet (tiltLimit supplyLow : Half) (s : State) : Answer :=
  if tiltLimit.toInt < 100 ∨ 2950 < tiltLimit.toInt ∨ supplyLow.toNat < 60 ∨ 300 < supplyLow.toNat then refuse .range s
  else
    accept
      (s.withSense { s.work.sense with tiltLimit := tiltLimit.toNat, supplyLow := supplyLow.toNat }).judgeTilt.reconcile.judgeSupply.reconcile

/-- A wind limit of 0 releases the WIND cause (R115). -/
def State.windLimitWritten (s : State) : State := if s.work.sense.windLimit = 0 then s.setCause .wind false else s

/-- WIND_SET (R119). -/
def answerWindSet (gateLength windRun windLimit : Half) (s : State) : Answer :=
  if windRun.toNat = 0 ∨ 5000 < windRun.toNat ∨ 600 < windLimit.toNat then refuse .range s
  else
    let g := clampNat 100 10000 gateLength.toNat
    { status := okOr (decide (g ≠ gateLength.toNat))
      st := ((s.withSense { s.work.sense with gateLength := g, windRun := windRun.toNat, windLimit := windLimit.toNat }).startGate.windLimitWritten).reconcile }

end Sys2Proof.Machine
end

