-- ==== Sys2Proof/Machine/Sites.lean ====
section
/-! DEFINITION. The requests of the Site Table (R4 to R6) and of the Aiming Solver (R9, R26 to R29), each as the answer it is given. -/

namespace Sys2Proof.Machine

open Sys2Proof

/-! ## The Site Table -/

/-- Every field of a site record lies within its range (R1, R4). -/
def siteInRange (number : Byte) (lat lon alt : Quad) (pol beaconFloor beaconCeiling : Half) (name : List Byte) : Bool :=
  decide (number.toNat ≤ 15) && decide (name.length ≤ 12) && name.all (fun c => decide (32 ≤ c.toNat ∧ c.toNat ≤ 126))
    && decide (-800000000 ≤ lat.toInt ∧ lat.toInt ≤ 800000000)
    && decide (-1800000000 ≤ lon.toInt ∧ lon.toInt ≤ 1799999999)
    && decide (-5000 ≤ alt.toInt ∧ alt.toInt ≤ 90000)
    && decide (pol.toNat ≤ 17999) && decide (beaconFloor.toNat ≤ 4094)
    && decide (1 ≤ beaconCeiling.toNat ∧ beaconCeiling.toNat ≤ 4095)
    && decide (beaconFloor.toNat < beaconCeiling.toNat)

/-- The record that an accepted SITE_STORE places (R4). -/
def storedSite (number : Byte) (lat lon alt : Quad) (pol beaconFloor beaconCeiling : Half) (name : List Byte) : Site :=
  { number := number.toNat, name := name, lat := lat.toInt, lon := lon.toInt, alt := alt.toInt, pol := pol.toNat
    beaconFloor := beaconFloor.toNat, beaconCeiling := beaconCeiling.toNat, learned := none }

/-- SITE_STORE (R4). -/
def answerSiteStore (number : Byte) (lat lon alt : Quad) (pol beaconFloor beaconCeiling : Half) (name : List Byte) (s : State) :
    Answer :=
  if siteInRange number lat lon alt pol beaconFloor beaconCeiling name then
    accept { s with sites := insertSite (storedSite number lat lon alt pol beaconFloor beaconCeiling name) s.sites }
  else refuse .range s

/-- SITE_ERASE (R5). -/
def answerSiteErase (number : Byte) (s : State) : Answer :=
  if 15 < number.toNat then refuse .range s
  else if (s.site? number.toNat).isNone then refuse .noSite s
  else accept { s with sites := s.sites.filter (fun r => decide (r.number ≠ number.toNat)) }

/-- SITE_READ (R6). -/
def answerSiteRead (number : Byte) (s : State) : Answer :=
  if number.toNat = 255 then accept s (directoryBytes s.sites)
  else if 15 < number.toNat then refuse .range s
  else
    match s.site? number.toNat with
    | some r => accept s (siteBytes r)
    | none => refuse .noSite s

/-! ## The Aiming Solver -/

/-- The fix number after one more fix (R8). -/
def nextFixNumber (n : Nat) : Nat := (n + 1) % 65536

/-- FIX (R9, R10). -/
def answerFix (lat lon alt : Quad) (headingFlag : Byte) (heading : Half) (s : State) : Answer :=
  match flagOf headingFlag with
  | none => refuse .range s
  | some present =>
    if -900000000 ≤ lat.toInt ∧ lat.toInt ≤ 900000000 ∧ -1800000000 ≤ lon.toInt ∧ lon.toInt ≤ 1799999999
        ∧ -5000 ≤ alt.toInt ∧ alt.toInt ≤ 90000 ∧ (present = true → heading.toNat ≤ 35999) then
      let n := nextFixNumber s.fixNumber
      accept
        { s with
          fixNumber := n
          fix := some { lat := lat.toInt, lon := lon.toInt, alt := alt.toInt
                        heading := if present then heading.toNat else 0, headingPresent := present, number := n }
          solution := if s.solution.status = .invalid then s.solution else { s.solution with stale := true } }
        (unsignedHalf n)
    else refuse .range s

/-- The status of a SOLVE whose computation gave a record (R26). -/
def solveStatus (q : Solution) : Status :=
  if q.status = .valid then (if q.hasPreferred = false then .blocked else if q.tiltClamped then .clamped else .ok)
  else solutionRefusal q

/-- SOLVE (R26). -/
def answerSolve (site extFlag : Byte) (ext : Half) (s : State) : Answer :=
  match flagOf extFlag with
  | none => refuse .range s
  | some named =>
    if 15 < site.toNat ∨ (named = true ∧ 15000 < ext.toNat) then refuse .range s
    else
      let q := solve (s.solveInputs site.toNat (if named then ext.toNat else s.extension))
      { status := solveStatus q, body := solutionBytes q, st := { s with solution := q } }

/-- AIM (R27, R28). -/
def answerAim (site : Byte) (s : State) : Answer :=
  match s.aimRefusal .console site.toNat with
  | some st => refuse st s
  | none =>
    let r := s.aimRun site.toNat .console
    { status := r.2, body := solutionBytes r.1.solution, st := r.1.reconcile }

/-- SOLUTION_READ (R29). -/
def answerSolutionRead (s : State) : Answer := accept s (solutionBytes s.solution)

end Sys2Proof.Machine
end

