-- ==== Sys2Proof/Machine/TripRequests.lean ====
section
/-! DEFINITION. The requests of the Trip Unit (R132 to R138), each as the answer it is given. -/

namespace Sys2Proof.Machine

open Sys2Proof

/-- A configuration written for a configurable source (R132 to R134, R136). -/
def State.configure (s : State) (n : Source) (c : TripConfig) : State :=
  let r := s.trips.source n
  if c.enabled = false then
    let t := s.setSource n { r with state := .clear, config := c, staged := none, timer := 0, timerMs := 0, axes := {} }
    if r.state = .clear then t else t.raise .trip
  else if r.config.enabled = false then
    if r.cause then (s.setSource n { r with state := .active, config := c, staged := none }).raise .trip
    else s.setSource n { r with config := c, staged := none }
  else if r.state = .clear then s.setSource n { r with config := c, staged := none }
  else s.setSource n { r with staged := some c }

/-- TRIP_CONFIG (R136). -/
def answerTripConfig (source enable mode : Byte) (delay : Half) (raising lowering rest positioner transmit : Byte) (s : State) :
    Answer :=
  match sourceOf source with
  | none => refuse .range s
  | some n =>
    if configurable n = false then refuse .range s
    else
      match flagOf enable, tripModeOf mode, actionOf raising lowering rest positioner transmit with
      | some e, some m, some act =>
        if s.lock then refuse .locked s
        else
          let d := clampNat 5 600 delay.toNat
          { status := okOr (decide (d ≠ delay.toNat))
            st := (s.configure n { enabled := e, mode := m, delay := d, action := act }).reconcile }
      | _, _, _ => refuse .range s

/-- TRIP_READ (R137, R197). -/
def answerTripRead (s : State) : Answer := { status := .ok, body := tripBytes s, st := s, segmented := true }

/-- A named source is cleared where it is in LATCHED_WAIT (R138). -/
def State.clearSource (s : State) (n : Source) : State :=
  if (s.trips.source n).state = .latchedWait then (s.setSource n (toClear (s.trips.source n))).raise .trip else s

/-- TRIP_CLEAR (R138): the sources are cleared together, and the list is of those that still stand. A refusal carries the
status alone (R138; log entry 40). -/
def answerTripClear (sources : Half) (s : State) : Answer :=
  match sourceSetOf sources with
  | none => refuse .range s
  | some named =>
    let t := named.foldl State.clearSource s
    accept t.reconcile (remainingBytes t.trips named)

end Sys2Proof.Machine
end

