-- ==== Sys2Proof/Machine/Serve.lean ====
section
/-! DEFINITION. The Console Link at work: a taken frame is handed to the block that owns it (R196), the receiver assembles frames
(R194, R195), and a frame leaves the line (R198, R200). -/

namespace Sys2Proof.Machine

open Sys2Proof

/-! ## Taking a frame (R196) -/

/-- The answer of the block that owns a request; an event is no request and has none. -/
def answerOf (i : Instr) (s : State) : Option Answer :=
  match i with
  | .ident _ => some (answerIdent s)
  | .restart _ => some (answerRestart s)
  | .save _ => some (answerSave s)
  | .siteStore _ number lat lon alt pol fl ce name => some (answerSiteStore number lat lon alt pol fl ce name s)
  | .siteErase _ number => some (answerSiteErase number s)
  | .siteRead _ number => some (answerSiteRead number s)
  | .fix _ lat lon alt flag heading => some (answerFix lat lon alt flag heading s)
  | .solve _ site flag ext => some (answerSolve site flag ext s)
  | .aim _ site => some (answerAim site s)
  | .solutionRead _ => some (answerSolutionRead s)
  | .mapWrite _ layer first count attr height => some (answerMapWrite layer first count attr height s)
  | .mapRead _ layer first count => some (answerMapRead layer first count s)
  | .ceilingSet _ height => some (answerCeilingSet height s)
  | .stowAzimuth _ z => some (answerStowAzimuth z s)
  | .bodyLock _ => some (answerBodyLock s)
  | .violationRead _ => some (answerViolationRead s)
  | .violationAck _ => some (answerViolationAck s)
  | .axisTarget _ axis position => some (answerAxisTarget axis position s)
  | .axisMoment _ axis moment => some (answerAxisMoment axis moment s)
  | .sync _ => some (answerSync s)
  | .axisStop _ axis => some (answerAxisStop axis s)
  | .jog _ axis direction speed => some (answerJog axis direction speed s)
  | .home _ axis => some (answerHome axis s)
  | .stow _ => some (answerStow s)
  | .axisRead _ axis => some (answerAxisRead axis s)
  | .slewSet _ axis slewClass => some (answerSlewSet axis slewClass s)
  | .indexSet _ axis position => some (answerIndexSet axis position s)
  | .mastTo _ height => some (answerMastTo height s)
  | .mastLower _ => some (answerMastLower s)
  | .mastStop _ => some (answerMastStop s)
  | .mastRead _ => some (answerMastRead s)
  | .mastParam _ name value => some (answerMastParam name value s)
  | .senseRead _ => some (answerSenseRead s)
  | .calSet _ item value => some (answerCalSet item value s)
  | .limitSet _ tiltLimit supplyLow => some (answerLimitSet tiltLimit supplyLow s)
  | .windSet _ gateLength windRun windLimit => some (answerWindSet gateLength windRun windLimit s)
  | .tripConfig _ source enable mode delay raising lowering rest positioner transmit =>
    some (answerTripConfig source enable mode delay raising lowering rest positioner transmit s)
  | .tripRead _ => some (answerTripRead s)
  | .tripClear _ sources => some (answerTripClear sources s)
  | .search _ kind origin site => some (answerSearch kind origin site s)
  | .searchAbort _ => some (answerSearchAbort s)
  | .searchRead _ => some (answerSearchRead s)
  | .searchParam _ profile initialStep minStep margin dwell samples budget radius =>
    some (answerSearchParam profile initialStep minStep margin dwell samples budget radius s)
  | .track _ choice interval => some (answerTrack choice interval s)
  | .txRequest _ choice => some (answerTxRequest choice s)
  | .txRead _ => some (answerTxRead s)
  | .deploy _ site height options interval => some (answerDeploy site height options interval s)
  | .stowAll _ => some (answerStowAll s)
  | .halt _ => some (answerHalt s)
  | .seqRead _ => some (answerSeqRead s)
  | .noticeMask _ kinds => some (answerNoticeMask kinds s)
  | .hush _ => some (answerHush s)
  | .unhush _ => some (answerUnhush s)
  | .pendingClear _ kinds => some (answerPendingClear kinds s)
  | .timerSet _ timer mode interval => some (answerTimerSet timer mode interval s)
  | .timerRead _ timer => some (answerTimerRead timer s)
  | .powerOn | .resetLine | .byteReceived _ | .receiveGap | .lineFault | .unknownKindFrame _ _ _ | .frameSent | .saveComplete
  | .jogDeadmanExpiry _ | .axisEncoderMove _ _ | .axisSettleDone _ | .axisStallTimeout _ | .mastEncoderCount _
  | .mastSettleDone | .mastStallTimeout | .conversion _ _ | .lineRawChange _ _ | .debounceExpiry _ | .anemometerPulse _
  | .gateEnd | .releaseTimerExpiry _ | .searchDwellDone | .trackExpiry | .reportExpiry | .deployRaiseIssue
  | .deploySearchIssue | .txWaitTimeout => none

/-- The kind that a FORMAT reply to a kind carries, less the 0x80 that every reply adds (R196). -/
def formatKind (kind : Byte) : Byte := if 0x01 ≤ kind.toNat ∧ kind.toNat ≤ 0x5F then kind else 0

/-- The reply FORMAT to a frame (R196). -/
def State.answerFormat (s : State) (kind tag : Byte) : State := (refuse .format s).deliver (formatKind kind) tag

/-- A taken frame is checked by the link and handed to the owning block (R196). -/
def State.serve (s : State) (f : Frame) : State :=
  match decodeFrame f with
  | none => s.answerFormat f.kind f.tag
  | some i =>
    match answerOf i s with
    | none => s.answerFormat f.kind f.tag
    | some a => a.deliver f.kind f.tag

/-- The link takes frames from the head of its queue while it may (R196); `fuel` bounds their number. -/
def State.pump : Nat → State → State
  | 0, s => s
  | fuel + 1, s =>
    if s.linkTakes then
      match s.link.queue with
      | [] => s
      | f :: fs => State.pump fuel (({ s with link := { s.link with queue := fs } }).serve f)
    else s

/-- The link takes what it may of its queue. -/
def State.takeFrames (s : State) : State := s.pump s.link.queue.length

/-! ## Whole frames -/

/-- A request arrives as a whole frame, and the link takes it at once if it is free; else the frame joins the queue (R195, R196).
Then an idle transmitter decides (R198). -/
def State.request (s : State) (i : Instr) (a : State → Answer) : State :=
  match encodeFrame i with
  | none => s
  | some f =>
    (if s.linkTakes ∧ s.link.queue = [] then (a s).deliver f.kind f.tag else (s.joinQueue f).takeFrames).arbitrate

/-- A complete frame is judged by the queue's room, and taken when its turn comes (R195, R196). -/
def State.frameArrives (s : State) (f : Frame) : State := (s.joinQueue f).takeFrames

/-! ## The frame receiver (R194, R195) -/

/-- One step of the CRC-16 with polynomial 0x1021 over a bit (R193). -/
def crcBit (c : Half) : Half := if c.getLsbD 15 then (c <<< 1) ^^^ 0x1021 else c <<< 1

/-- One byte into the CRC-16 (R193). -/
def crcByte (c : Half) (b : Byte) : Half :=
  crcBit (crcBit (crcBit (crcBit (crcBit (crcBit (crcBit (crcBit (c ^^^ (b.setWidth 16 <<< 8)))))))))

/-- The CRC-16 of a string of bytes, from the initial value 0xFFFF (R193). -/
def crc16 (bs : List Byte) : Half := bs.foldl crcByte 0xFFFF

/-- The CRC of a frame, over its length, kind, tag and payload (R193). -/
def frameCrc (f : Frame) : Half := crc16 (BitVec.ofNat 8 f.payload.length :: f.kind :: f.tag :: f.payload)

/-- The bytes of a frame on the line (R193). -/
def frameBytes (f : Frame) : List Byte :=
  0xC3 :: BitVec.ofNat 8 f.payload.length :: f.kind :: f.tag :: f.payload ++ halfBytes (frameCrc f)

/-- The lead byte (R193). -/
def leadByte : Byte := 0xC3

/-- The gap that discards a partial frame, in ms; a gap of this much is not yet too long (R194). -/
def gapMs : Nat := 20

/-- A byte as HUNT examines it (R194). -/
def huntByte (b : Byte) : Receiver := if b = leadByte then { state := .length } else {}

/-- The receiver after a byte, and the frame that it completes with the CRC that came with it (R194). -/
def Receiver.byte (r : Receiver) (b : Byte) : Receiver × Option (Frame × Half) :=
  match r.state with
  | .hunt => (huntByte b, none)
  | .length => (if b.toNat ≤ 120 then { r with state := .kind, length := b.toNat } else huntByte b, none)
  | .kind => ({ r with state := .tag, kind := b }, none)
  | .tag => ({ r with state := if r.length = 0 then .check else .payload, tag := b }, none)
  | .payload =>
    let p := r.payload ++ [b]
    ({ r with state := if r.length ≤ p.length then .check else .payload, payload := p }, none)
  | .check =>
    match r.crc with
    | [] => ({ r with crc := [b] }, none)
    | c :: _ => ({}, some ({ kind := r.kind, tag := r.tag, payload := r.payload }, halfOf c b))

/-- The receiver with its gap time running, outside HUNT (R194): one ms more than the gap that it allows. -/
def Receiver.timed (r : Receiver) : Receiver := if r.state = .hunt then r else { r with gapTimer := some (gapMs + 1) }

/-- A byte arrives (R194, R195). -/
def State.byteArrives (s : State) (b : Byte) : State :=
  let r := s.link.receiver.byte b
  let t := { s with link := { s.link with receiver := r.1.timed } }
  match r.2 with
  | some (f, crc) => if frameCrc f = crc then t.frameArrives f else t
  | none => t

/-- The partial frame is discarded (R194). -/
def State.dropPartial (s : State) : State := { s with link := { s.link with receiver := {} } }

/-! ## A frame leaves the line (R198) -/

/-- A reply that waited for a place joins the queue once there is one, and its effects come about (R196). -/
def State.admitWaiting (s : State) : State :=
  match s.link.waiting with
  | none => s
  | some (r, after) =>
    if s.link.replies.length < replyRoom then
      ({ s with link := { s.link with waiting := none } }).offerReply r after
    else s

/-- The last byte of a frame has left the line (R198, R200). -/
def State.frameLeaves (s : State) : State :=
  match s.link.sending with
  | none => s
  | some f =>
    match f.rest with
    | p :: ps =>
      { s with link := { s.link with
          sending := some { f with frame := { f.frame with payload := p }, rest := ps, left := frameTime p } } }
    | [] =>
      let t := { s with link := { s.link with sending := none } }
      if f.restarts then t.restartEffects
      else t.kick.admitWaiting.takeFrames

end Sys2Proof.Machine
end

