-- ==== Sys2Proof/Machine/Events.lean ====
section
/-! DEFINITION. What the plant, the lines and the times do to the AL40: the state after each event, before an idle transmitter decides.
An event that meets none of its conditions changes nothing (log entry 3). -/

namespace Sys2Proof.Machine

open Sys2Proof

/-! ## Axes -/

/-- The encoder of an axis counts (R51, R57). -/
def State.encoderMoves (s : State) (a : Axis) (delta : Half) : State :=
  (s.axisCounts a (decide (0 ≤ delta.toInt)) delta.toInt.natAbs).reconcile

/-- The settle time of an axis ends (R57). -/
def State.axisSettleEnds (s : State) (a : Axis) : State :=
  if (s.axis a).motion = .settling ∧ (s.axis a).settleTimer.isSome = true then (s.axisEnds a (s.axis a).ending).reconcile else s

/-- The motion states whose progress is watched (R64). -/
def watched (x : AxisRec) : Bool :=
  match x.motion with
  | .slewing | .homing | .jogging => true
  | _ => false

/-- An axis stalls (R64). -/
def State.axisStalls (s : State) (a : Axis) : State :=
  if watched (s.axis a) then ((s.stopAxis a .stopped).detect .axisStall (some a)).reconcile else s

/-- The dead-man of a jog expires (R73). -/
def State.deadmanExpires (s : State) (a : Axis) : State :=
  if (s.axis a).motion = .jogging then (s.stopAxis a .stopped).reconcile else s

/-! ## The mast -/

/-- The mast states whose progress is watched (R94). -/
def Mast.watched (m : Mast) : Bool :=
  match m.state with
  | .raising | .lowering | .nudging | .topping => true
  | _ => false

/-- The direction in which a watched mast is driven (R94). -/
def Mast.drivenUp (m : Mast) : Bool :=
  match m.state with
  | .raising | .topping => true
  | .nudging => m.nudgeUp
  | _ => false

/-- The counter after one count, which holds at its bounds (R81). -/
def countedMast (c : Nat) (up : Bool) : Nat := if up then (if c < 8000 then c + 1 else c) else c - 1

/-- The mast record after one count (R81, R91, R94). -/
def Mast.counted (m : Mast) (up : Bool) : Mast :=
  let c := countedMast m.counter up
  let x := { m with counter := c }
  if m.watched then
    let p := m.progress + (if up = m.drivenUp then 1 else -1)
    if 10 ≤ p then { x with progress := 0, stallTimer := some mastStallMs } else { x with progress := p }
  else if m.state = .settling ∧ c ≠ m.counter then { x with settleTimer := some mastSettleMs }
  else x

/-- One count of the mast encoder (R81). -/
def State.mastCounts (s : State) (up : Bool) : State := ({ s with mast := s.mast.counted up }).reconcile

/-- The mast has stood still (R91): the gate sees where it stands before the sequence goes on. -/
def State.mastSettleEnds (s : State) : State :=
  if s.mast.state = .settling then
    let r := s.mastSettled
    (handMast (r.1.gateSync, r.2)).reconcile
  else s

/-- The mast stalls (R94): the cause is handed on, and a new mark is set. -/
def State.mastStalls (s : State) : State :=
  if s.mast.watched then
    (({ s with mast := { s.mast with stallTimer := some mastStallMs, progress := 0 } }).detect .mastStall none).reconcile
  else s

/-! ## The front end -/

/-- A conversion (R103, R104). -/
def State.converts (s : State) (c : Channel) (n : Nat) : State :=
  let t := { s with sense := s.sense.setChannel c (pushCount (s.sense.channel c) n) }
  match c with
  | .level => (t.handSearchEnd (t.sampleLevel n)).reconcile
  | .pitch | .roll => t.judgeTilt.reconcile
  | .supply => t.judgeSupply.reconcile

/-- The debounce time, in ms (R110). -/
def debounceMs : Nat := 20

/-- The position captured at a raw change of a line (R111). -/
def State.captureAt (s : State) (n : Line) : Option (Int × Bool) :=
  (lineAxis n).map (fun a => ((s.axis a).position, (s.axis a).movedUp))

/-- A raw level changes (R110, R111): it begins to hold, or returns to the debounced level. -/
def State.rawChanges (s : State) (n : Line) (level : Bool) : State :=
  let r := s.lines.line n
  let q :=
    if r.level = level then { r with raw := level, timer := none, captured := none }
    else { r with raw := level, timer := some debounceMs, captured := s.captureAt n }
  if r.raw = level then s else { s with lines := s.lines.setLine n q }

/-- The debounced level of a line has changed; it is handed to the blocks that use the line (R110). -/
def State.lineChanged (s : State) (n : Line) (level : Bool) (captured : Option (Int × Bool)) : State :=
  match n with
  | .estop | .brake | .drive | .pressure | .aux => s.judgeLines
  | .nest => if level then (let r := s.nestCloses; handMast (r.1.gateSync, r.2)) else s.nestOpens
  | .panStow => s.homeSwitch .pan level
  | .tiltStow => s.homeSwitch .tilt level
  | .wrap => s
  | .panIndex | .tiltIndex | .polIndex =>
    match lineAxis n, captured with
    | some a, some (p, up) => s.indexEdge a p up level
    | _, _ => s

/-- A raw level has held for the debounce time (R110). -/
def State.debounced (s : State) (n : Line) : State :=
  let r := s.lines.line n
  let q : LineRec := { raw := r.raw, level := r.raw, timer := none, captured := none }
  if r.raw = r.level then s
  else (({ s with lines := s.lines.setLine n q }).lineChanged n r.raw r.captured).reconcile

/-- A pulse of the anemometer, `since` microseconds after the last counted one (R113). -/
def State.pulse (s : State) (since : Nat) : State :=
  if since < 2000 then s
  else
    let x := s.sense
    let t := { s with sense := { x with pulses := min 65535 (x.pulses + 1), gust := x.gust - 1 } }
    if x.gust = 1 ∧ s.work.sense.windLimit ≠ 0 then (t.setCause .wind true).reconcile else t

/-- A gate ends at its length (R114, R115). -/
def State.gateEnds (s : State) : State :=
  let x := s.sense
  let y := s.work.sense
  let t := { s with sense := { x with windSpeed := x.pulses * y.windRun * 10 / y.gateLength } }
  ((if x.pulses < gustSetValue y then t.setCause .wind false else t).startGate).reconcile

/-! ## Timers -/

/-- A release timer expires (R127). -/
def State.releaseEnds (s : State) (n : Source) : State :=
  if (s.trips.source n).state = .releasing then (s.releaseExpires n).reconcile else s

/-- The dwell of a measurement ends (R147). -/
def State.searchDwellEnds (s : State) : State := if s.searching then s.dwellEnds else s

/-- An interval timer at its expiry (R208). -/
def IntervalTimer.expired (t : IntervalTimer) : IntervalTimer :=
  match t.mode with
  | .repeating => { t with elapsed := 0, elapsedMs := 0 }
  | _ => { t with mode := .off, elapsed := 0, elapsedMs := 0 }

/-- The TRACK timer expires (R159, R208). -/
def State.trackTimerExpires (s : State) : State :=
  if s.trackTimer.mode = .off then s else ({ s with trackTimer := s.trackTimer.expired }).trackExpires.reconcile

/-- The REPORT timer expires (R208). -/
def State.reportTimerExpires (s : State) : State :=
  if s.report.mode = .off then s else ({ s with report := s.report.expired }).raise .report

/-- The transmit wait timer expires (R185). -/
def State.txWaitEnds (s : State) : State :=
  if s.seq.state = .deployTx ∧ s.seq.txWait.isSome = true then (s.seqFail .txTimeout).reconcile else s

/-- The write of the image completes (R215). -/
def State.saveEnds (s : State) : State :=
  match s.store.snapshot with
  | none => s
  | some x => { s with store := { image := x, imageGood := true, snapshot := none, saveTimer := none, storeBad := false } }

/-- More than the gap that a frame allows has passed (R194). -/
def State.gapPasses (s : State) : State := if s.link.receiver.state = .hunt then s else s.dropPartial

end Sys2Proof.Machine
end

