-- ==== Sys2Proof/Machine/Exec.lean ====
section
/-! DEFINITION. The meaning of each command: what the AL40 is after it. A request of the console is a whole valid frame of that request
(log entry 2); an event is itself. -/

namespace Sys2Proof.Machine

open Sys2Proof Host

/-- POWER_ON (R213). -/
def execPowerOn (s : State) : Outcome State Fault Refusal := .next ((s.coldReset .powerOn).arbitrate)

/-- RESET_LINE (R213). -/
def execResetLine (s : State) : Outcome State Fault Refusal := .next ((s.coldReset .resetLine).arbitrate)

/-- BYTE_RECEIVED (R194). -/
def execByteReceived (b : Byte) (s : State) : Outcome State Fault Refusal := .next ((s.byteArrives b).arbitrate)

/-- RECEIVE_GAP (R194). -/
def execReceiveGap (s : State) : Outcome State Fault Refusal := .next (s.gapPasses.arbitrate)

/-- LINE_FAULT (R194). -/
def execLineFault (s : State) : Outcome State Fault Refusal := .next (s.dropPartial.arbitrate)

/-- UNKNOWN_KIND_FRAME (R196). -/
def execUnknownKindFrame (kind : Byte) (tag : Byte) (payload : List Byte) (s : State) : Outcome State Fault Refusal :=
  .next ((s.frameArrives { kind := kind, tag := tag, payload := payload }).arbitrate)

/-- FRAME_SENT (R198). -/
def execFrameSent (s : State) : Outcome State Fault Refusal := .next (s.frameLeaves.arbitrate)

/-- IDENT (R199). -/
def execIdent (tag : Byte) (s : State) : Outcome State Fault Refusal := .next (s.request (.ident tag) (answerIdent))

/-- RESTART (R200). -/
def execRestart (tag : Byte) (s : State) : Outcome State Fault Refusal := .next (s.request (.restart tag) (answerRestart))

/-- SAVE (R214). -/
def execSave (tag : Byte) (s : State) : Outcome State Fault Refusal := .next (s.request (.save tag) (answerSave))

/-- SAVE_COMPLETE (R215). -/
def execSaveComplete (s : State) : Outcome State Fault Refusal := .next (s.saveEnds.arbitrate)

/-- SITE_STORE (R4). -/
def execSiteStore (tag : Byte) (number : Byte) (lat : Quad) (lon : Quad) (alt : Quad) (pol : Half) (beaconFloor : Half) (beaconCeiling : Half) (name : List Byte) (s : State) : Outcome State Fault Refusal :=
  .next (s.request (.siteStore tag number lat lon alt pol beaconFloor beaconCeiling name) (answerSiteStore number lat lon alt pol beaconFloor beaconCeiling name))

/-- SITE_ERASE (R5). -/
def execSiteErase (tag : Byte) (number : Byte) (s : State) : Outcome State Fault Refusal :=
  .next (s.request (.siteErase tag number) (answerSiteErase number))

/-- SITE_READ (R6). -/
def execSiteRead (tag : Byte) (number : Byte) (s : State) : Outcome State Fault Refusal :=
  .next (s.request (.siteRead tag number) (answerSiteRead number))

/-- FIX (R9). -/
def execFix (tag : Byte) (lat : Quad) (lon : Quad) (alt : Quad) (headingFlag : Byte) (heading : Half) (s : State) : Outcome State Fault Refusal :=
  .next (s.request (.fix tag lat lon alt headingFlag heading) (answerFix lat lon alt headingFlag heading))

/-- SOLVE (R26). -/
def execSolve (tag : Byte) (site : Byte) (extFlag : Byte) (ext : Half) (s : State) : Outcome State Fault Refusal :=
  .next (s.request (.solve tag site extFlag ext) (answerSolve site extFlag ext))

/-- AIM (R27). -/
def execAim (tag : Byte) (site : Byte) (s : State) : Outcome State Fault Refusal :=
  .next (s.request (.aim tag site) (answerAim site))

/-- SOLUTION_READ (R29). -/
def execSolutionRead (tag : Byte) (s : State) : Outcome State Fault Refusal :=
  .next (s.request (.solutionRead tag) (answerSolutionRead))

/-- MAP_WRITE (R42). -/
def execMapWrite (tag : Byte) (layer : Byte) (first : Byte) (count : Byte) (attr : Byte) (height : Half) (s : State) : Outcome State Fault Refusal :=
  .next (s.request (.mapWrite tag layer first count attr height) (answerMapWrite layer first count attr height))

/-- MAP_READ (R44). -/
def execMapRead (tag : Byte) (layer : Byte) (first : Byte) (count : Byte) (s : State) : Outcome State Fault Refusal :=
  .next (s.request (.mapRead tag layer first count) (answerMapRead layer first count))

/-- CEILING_SET (R45). -/
def execCeilingSet (tag : Byte) (height : Half) (s : State) : Outcome State Fault Refusal :=
  .next (s.request (.ceilingSet tag height) (answerCeilingSet height))

/-- STOW_AZIMUTH (R46). -/
def execStowAzimuth (tag : Byte) (z : Half) (s : State) : Outcome State Fault Refusal :=
  .next (s.request (.stowAzimuth tag z) (answerStowAzimuth z))

/-- BODY_LOCK (R47). -/
def execBodyLock (tag : Byte) (s : State) : Outcome State Fault Refusal := .next (s.request (.bodyLock tag) (answerBodyLock))

/-- VIOLATION_READ (R48). -/
def execViolationRead (tag : Byte) (s : State) : Outcome State Fault Refusal :=
  .next (s.request (.violationRead tag) (answerViolationRead))

/-- VIOLATION_ACK (R49). -/
def execViolationAck (tag : Byte) (s : State) : Outcome State Fault Refusal :=
  .next (s.request (.violationAck tag) (answerViolationAck))

/-- AXIS_TARGET (R61). -/
def execAxisTarget (tag : Byte) (axis : Byte) (position : Half) (s : State) : Outcome State Fault Refusal :=
  .next (s.request (.axisTarget tag axis position) (answerAxisTarget axis position))

/-- AXIS_MOMENT (R62). -/
def execAxisMoment (tag : Byte) (axis : Byte) (moment : Byte) (s : State) : Outcome State Fault Refusal :=
  .next (s.request (.axisMoment tag axis moment) (answerAxisMoment axis moment))

/-- SYNC (R63). -/
def execSync (tag : Byte) (s : State) : Outcome State Fault Refusal := .next (s.request (.sync tag) (answerSync))

/-- AXIS_STOP (R77). -/
def execAxisStop (tag : Byte) (axis : Byte) (s : State) : Outcome State Fault Refusal :=
  .next (s.request (.axisStop tag axis) (answerAxisStop axis))

/-- JOG (R72). -/
def execJog (tag : Byte) (axis : Byte) (direction : Byte) (speed : Byte) (s : State) : Outcome State Fault Refusal :=
  .next (s.request (.jog tag axis direction speed) (answerJog axis direction speed))

/-- JOG_DEADMAN_EXPIRY (R73). -/
def execJogDeadmanExpiry (axis : Axis) (s : State) : Outcome State Fault Refusal := .next ((s.deadmanExpires axis).arbitrate)

/-- HOME (R67). -/
def execHome (tag : Byte) (axis : Byte) (s : State) : Outcome State Fault Refusal :=
  .next (s.request (.home tag axis) (answerHome axis))

/-- STOW (R71). -/
def execStow (tag : Byte) (s : State) : Outcome State Fault Refusal := .next (s.request (.stow tag) (answerStow))

/-- AXIS_READ (R78). -/
def execAxisRead (tag : Byte) (axis : Byte) (s : State) : Outcome State Fault Refusal :=
  .next (s.request (.axisRead tag axis) (answerAxisRead axis))

/-- SLEW_SET (R79). -/
def execSlewSet (tag : Byte) (axis : Byte) (slewClass : Byte) (s : State) : Outcome State Fault Refusal :=
  .next (s.request (.slewSet tag axis slewClass) (answerSlewSet axis slewClass))

/-- INDEX_SET (R66). -/
def execIndexSet (tag : Byte) (axis : Byte) (position : Half) (s : State) : Outcome State Fault Refusal :=
  .next (s.request (.indexSet tag axis position) (answerIndexSet axis position))

/-- AXIS_ENCODER_MOVE (R57). -/
def execAxisEncoderMove (axis : Axis) (delta : Half) (s : State) : Outcome State Fault Refusal :=
  .next ((s.encoderMoves axis delta).arbitrate)

/-- AXIS_SETTLE_DONE (R57). -/
def execAxisSettleDone (axis : Axis) (s : State) : Outcome State Fault Refusal := .next ((s.axisSettleEnds axis).arbitrate)

/-- AXIS_STALL_TIMEOUT (R64). -/
def execAxisStallTimeout (axis : Axis) (s : State) : Outcome State Fault Refusal := .next ((s.axisStalls axis).arbitrate)

/-- MAST_TO (R97). -/
def execMastTo (tag : Byte) (height : Half) (s : State) : Outcome State Fault Refusal :=
  .next (s.request (.mastTo tag height) (answerMastTo height))

/-- MAST_LOWER (R98). -/
def execMastLower (tag : Byte) (s : State) : Outcome State Fault Refusal :=
  .next (s.request (.mastLower tag) (answerMastLower))

/-- MAST_STOP (R99). -/
def execMastStop (tag : Byte) (s : State) : Outcome State Fault Refusal := .next (s.request (.mastStop tag) (answerMastStop))

/-- MAST_READ (R100). -/
def execMastRead (tag : Byte) (s : State) : Outcome State Fault Refusal := .next (s.request (.mastRead tag) (answerMastRead))

/-- MAST_PARAM (R101). -/
def execMastParam (tag : Byte) (name : Byte) (value : Half) (s : State) : Outcome State Fault Refusal :=
  .next (s.request (.mastParam tag name value) (answerMastParam name value))

/-- MAST_ENCODER_COUNT (R81). -/
def execMastEncoderCount (up : Bool) (s : State) : Outcome State Fault Refusal := .next ((s.mastCounts up).arbitrate)

/-- MAST_SETTLE_DONE (R91). -/
def execMastSettleDone (s : State) : Outcome State Fault Refusal := .next (s.mastSettleEnds.arbitrate)

/-- MAST_STALL_TIMEOUT (R94). -/
def execMastStallTimeout (s : State) : Outcome State Fault Refusal := .next (s.mastStalls.arbitrate)

/-- CONVERSION (R103). -/
def execConversion (channel : Channel) (count : BitVec 12) (s : State) : Outcome State Fault Refusal :=
  .next ((s.converts channel count.toNat).arbitrate)

/-- LINE_RAW_CHANGE (R110). -/
def execLineRawChange (line : Line) (level : Bool) (s : State) : Outcome State Fault Refusal :=
  .next ((s.rawChanges line level).arbitrate)

/-- DEBOUNCE_EXPIRY (R110). -/
def execDebounceExpiry (line : Line) (s : State) : Outcome State Fault Refusal := .next ((s.debounced line).arbitrate)

/-- ANEMOMETER_PULSE (R113). -/
def execAnemometerPulse (sinceUs : Nat) (s : State) : Outcome State Fault Refusal := .next ((s.pulse sinceUs).arbitrate)

/-- GATE_END (R114). -/
def execGateEnd (s : State) : Outcome State Fault Refusal := .next (s.gateEnds.arbitrate)

/-- SENSE_READ (R116). -/
def execSenseRead (tag : Byte) (s : State) : Outcome State Fault Refusal :=
  .next (s.request (.senseRead tag) (answerSenseRead))

/-- CAL_SET (R117). -/
def execCalSet (tag : Byte) (item : Byte) (value : Half) (s : State) : Outcome State Fault Refusal :=
  .next (s.request (.calSet tag item value) (answerCalSet item value))

/-- LIMIT_SET (R118). -/
def execLimitSet (tag : Byte) (tiltLimit : Half) (supplyLow : Half) (s : State) : Outcome State Fault Refusal :=
  .next (s.request (.limitSet tag tiltLimit supplyLow) (answerLimitSet tiltLimit supplyLow))

/-- WIND_SET (R119). -/
def execWindSet (tag : Byte) (gateLength : Half) (windRun : Half) (windLimit : Half) (s : State) : Outcome State Fault Refusal :=
  .next (s.request (.windSet tag gateLength windRun windLimit) (answerWindSet gateLength windRun windLimit))

/-- RELEASE_TIMER_EXPIRY (R127). -/
def execReleaseTimerExpiry (source : Source) (s : State) : Outcome State Fault Refusal :=
  .next ((s.releaseEnds source).arbitrate)

/-- TRIP_CONFIG (R136). -/
def execTripConfig (tag : Byte) (source : Byte) (enable : Byte) (mode : Byte) (delay : Half) (raising : Byte) (lowering : Byte) (rest : Byte) (positioner : Byte) (transmit : Byte) (s : State) : Outcome State Fault Refusal :=
  .next (s.request (.tripConfig tag source enable mode delay raising lowering rest positioner transmit) (answerTripConfig source enable mode delay raising lowering rest positioner transmit))

/-- TRIP_READ (R137). -/
def execTripRead (tag : Byte) (s : State) : Outcome State Fault Refusal := .next (s.request (.tripRead tag) (answerTripRead))

/-- TRIP_CLEAR (R138). -/
def execTripClear (tag : Byte) (sources : Half) (s : State) : Outcome State Fault Refusal :=
  .next (s.request (.tripClear tag sources) (answerTripClear sources))

/-- SEARCH (R143). -/
def execSearch (tag : Byte) (kind : Byte) (origin : Byte) (site : Byte) (s : State) : Outcome State Fault Refusal :=
  .next (s.request (.search tag kind origin site) (answerSearch kind origin site))

/-- SEARCH_DWELL_DONE (R147). -/
def execSearchDwellDone (s : State) : Outcome State Fault Refusal := .next (s.searchDwellEnds.arbitrate)

/-- SEARCH_ABORT (R161). -/
def execSearchAbort (tag : Byte) (s : State) : Outcome State Fault Refusal :=
  .next (s.request (.searchAbort tag) (answerSearchAbort))

/-- SEARCH_READ (R162). -/
def execSearchRead (tag : Byte) (s : State) : Outcome State Fault Refusal :=
  .next (s.request (.searchRead tag) (answerSearchRead))

/-- SEARCH_PARAM (R163). -/
def execSearchParam (tag : Byte) (profile : Byte) (initialStep : Half) (minStep : Half) (margin : Half) (dwell : Half) (samples : Byte) (budget : Byte) (radius : Half) (s : State) : Outcome State Fault Refusal :=
  .next (s.request (.searchParam tag profile initialStep minStep margin dwell samples budget radius) (answerSearchParam profile initialStep minStep margin dwell samples budget radius))

/-- TRACK (R164). -/
def execTrack (tag : Byte) (choice : Byte) (interval : Half) (s : State) : Outcome State Fault Refusal :=
  .next (s.request (.track tag choice interval) (answerTrack choice interval))

/-- TRACK_EXPIRY (R159). -/
def execTrackExpiry (s : State) : Outcome State Fault Refusal := .next (s.trackTimerExpires.arbitrate)

/-- REPORT_EXPIRY (R208). -/
def execReportExpiry (s : State) : Outcome State Fault Refusal := .next (s.reportTimerExpires.arbitrate)

/-- TX_REQUEST (R173). -/
def execTxRequest (tag : Byte) (choice : Byte) (s : State) : Outcome State Fault Refusal :=
  .next (s.request (.txRequest tag choice) (answerTxRequest choice))

/-- TX_READ (R174). -/
def execTxRead (tag : Byte) (s : State) : Outcome State Fault Refusal := .next (s.request (.txRead tag) (answerTxRead))

/-- DEPLOY (R179). -/
def execDeploy (tag : Byte) (site : Byte) (height : Half) (options : Half) (interval : Half) (s : State) : Outcome State Fault Refusal :=
  .next (s.request (.deploy tag site height options interval) (answerDeploy site height options interval))

/-- DEPLOY_RAISE_ISSUE (R182). -/
def execDeployRaiseIssue (s : State) : Outcome State Fault Refusal := .next (s.issueRaise.reconcile.arbitrate)

/-- DEPLOY_SEARCH_ISSUE (R184). -/
def execDeploySearchIssue (s : State) : Outcome State Fault Refusal := .next (s.issueSearch.reconcile.arbitrate)

/-- TX_WAIT_TIMEOUT (R185). -/
def execTxWaitTimeout (s : State) : Outcome State Fault Refusal := .next (s.txWaitEnds.arbitrate)

/-- STOW_ALL (R188). -/
def execStowAll (tag : Byte) (s : State) : Outcome State Fault Refusal := .next (s.request (.stowAll tag) (answerStowAll))

/-- HALT (R190). -/
def execHalt (tag : Byte) (s : State) : Outcome State Fault Refusal := .next (s.request (.halt tag) (answerHalt))

/-- SEQ_READ (R191). -/
def execSeqRead (tag : Byte) (s : State) : Outcome State Fault Refusal := .next (s.request (.seqRead tag) (answerSeqRead))

/-- NOTICE_MASK (R205). -/
def execNoticeMask (tag : Byte) (kinds : Half) (s : State) : Outcome State Fault Refusal :=
  .next (s.request (.noticeMask tag kinds) (answerNoticeMask kinds))

/-- HUSH (R206). -/
def execHush (tag : Byte) (s : State) : Outcome State Fault Refusal := .next (s.request (.hush tag) (answerHush))

/-- UNHUSH (R206). -/
def execUnhush (tag : Byte) (s : State) : Outcome State Fault Refusal := .next (s.request (.unhush tag) (answerUnhush))

/-- PENDING_CLEAR (R207). -/
def execPendingClear (tag : Byte) (kinds : Half) (s : State) : Outcome State Fault Refusal :=
  .next (s.request (.pendingClear tag kinds) (answerPendingClear kinds))

/-- TIMER_SET (R209). -/
def execTimerSet (tag : Byte) (timer : Byte) (mode : Byte) (interval : Half) (s : State) : Outcome State Fault Refusal :=
  .next (s.request (.timerSet tag timer mode interval) (answerTimerSet timer mode interval))

/-- TIMER_READ (R210). -/
def execTimerRead (tag : Byte) (timer : Byte) (s : State) : Outcome State Fault Refusal :=
  .next (s.request (.timerRead tag timer) (answerTimerRead timer))

end Sys2Proof.Machine
end

