-- ==== Sys2Proof/Machine/Clock.lean ====
section
/-! DEFINITION. Time (DESIGN CHOICE, log entry 7). The table has no row for the passing of time. While no command waits, time passes: an
event of the table whose time has come happens, and otherwise every running time moves on by one millisecond. -/

namespace Sys2Proof.Machine

open Sys2Proof

/-- A running time, one millisecond later. -/
def Timer.passed (t : Timer) : Timer := t.map (fun n => n - 1)

/-- A running time has run out. -/
def Timer.out (t : Timer) : Bool := t == some 0

/-- The line's speed, in hundredths of a byte time each millisecond: 115,200 baud at 10 bits a byte (R193). -/
def bytesPerMs : Nat := 1152

/-- The milliseconds of a unit of the slow timers (R127, R176, R208). -/
def unitMs : Nat := 100

/-! ## One millisecond -/

/-- An axis, one millisecond later. -/
def AxisRec.passed (x : AxisRec) : AxisRec :=
  { x with settleTimer := Timer.passed x.settleTimer, jogTimer := Timer.passed x.jogTimer, stallTimer := Timer.passed x.stallTimer }

/-- A line, one millisecond later. -/
def LineRec.passed (r : LineRec) : LineRec := { r with timer := Timer.passed r.timer }

/-- A trip source, one millisecond later (R127). -/
def SourceRec.passed (r : SourceRec) : SourceRec :=
  if r.state = .releasing then
    if unitMs ≤ r.timerMs + 1 then { r with timer := r.timer - 1, timerMs := 0 } else { r with timerMs := r.timerMs + 1 }
  else r

/-- An interval timer, one millisecond later (R208). -/
def IntervalTimer.passed (t : IntervalTimer) : IntervalTimer :=
  if t.mode = .off then t
  else if unitMs ≤ t.elapsedMs + 1 then { t with elapsed := t.elapsed + 1, elapsedMs := 0 }
  else { t with elapsedMs := t.elapsedMs + 1 }

/-- The transmit wait timer, one millisecond later (R176). -/
def Sequence.passed (q : Sequence) : Sequence :=
  match q.txWait with
  | none => q
  | some n => if unitMs ≤ q.txWaitMs + 1 then { q with txWait := some (n - 1), txWaitMs := 0 } else { q with txWaitMs := q.txWaitMs + 1 }

/-- The lines, one millisecond later. -/
def Lines.passed (l : Lines) : Lines :=
  { estop := l.estop.passed, brake := l.brake.passed, drive := l.drive.passed, pressure := l.pressure.passed
    aux := l.aux.passed, nest := l.nest.passed, panStow := l.panStow.passed, tiltStow := l.tiltStow.passed
    wrap := l.wrap.passed, panIndex := l.panIndex.passed, tiltIndex := l.tiltIndex.passed, polIndex := l.polIndex.passed }

/-- The trip sources, one millisecond later. -/
def Trips.passed (t : Trips) : Trips :=
  { estop := t.estop.passed, drive := t.drive.passed, axisStall := t.axisStall.passed, mastStall := t.mastStall.passed
    slip := t.slip.passed, wind := t.wind.passed, tilt := t.tilt.passed, supply := t.supply.passed
    pressure := t.pressure.passed, aux := t.aux.passed }

/-- The link, one millisecond later. -/
def Link.passed (l : Link) : Link :=
  { l with
    receiver := { l.receiver with gapTimer := Timer.passed l.receiver.gapTimer }
    sending := l.sending.map (fun f => { f with left := f.left - bytesPerMs }) }

/-- One millisecond passes. -/
def State.tick (s : State) : State :=
  { s with
    pos := { s.pos with pan := s.pos.pan.passed, tilt := s.pos.tilt.passed, pol := s.pos.pol.passed }
    mast := { s.mast with settleTimer := Timer.passed s.mast.settleTimer, stallTimer := Timer.passed s.mast.stallTimer }
    sense := { s.sense with gateElapsed := s.sense.gateElapsed + 1 }
    lines := s.lines.passed
    trips := s.trips.passed
    search := { s.search with dwellTimer := Timer.passed s.search.dwellTimer }
    seq := s.seq.passed
    link := s.link.passed
    report := s.report.passed
    trackTimer := s.trackTimer.passed
    store := { s.store with saveTimer := Timer.passed s.store.saveTimer } }

/-! ## The events whose time has come -/

/-- An event where a condition holds. -/
def dueIf (c : Bool) (i : Instr) : Option Instr := if c then some i else none

/-- The event of an axis whose time has come, if there is one. -/
def State.axisDue (s : State) (a : Axis) : Option Instr :=
  let x := s.axis a
  (dueIf (Timer.out x.settleTimer && decide (x.motion = .settling)) (.axisSettleDone a)).orElse fun _ =>
  (dueIf (Timer.out x.stallTimer && watched x) (.axisStallTimeout a)).orElse fun _ =>
  dueIf (Timer.out x.jogTimer && decide (x.motion = .jogging)) (.jogDeadmanExpiry a)

/-- The event of the mast whose time has come, if there is one. -/
def State.mastDue (s : State) : Option Instr :=
  (dueIf (Timer.out s.mast.settleTimer && decide (s.mast.state = .settling)) .mastSettleDone).orElse fun _ =>
  dueIf (Timer.out s.mast.stallTimer && s.mast.watched) .mastStallTimeout

/-- The line whose debounce time has come, if there is one. -/
def State.lineDue (s : State) : Option Instr :=
  (allLines.find? (fun n => Timer.out (s.lines.line n).timer && decide ((s.lines.line n).raw ≠ (s.lines.line n).level))).map
    .debounceExpiry

/-- The trip source whose release time has come, if there is one. -/
def State.sourceDue (s : State) : Option Instr :=
  (allSources.find? (fun n => decide ((s.trips.source n).state = .releasing ∧ (s.trips.source n).timer = 0))).map
    .releaseTimerExpiry

/-- An interval timer has come to its interval. -/
def IntervalTimer.due (t : IntervalTimer) : Bool := decide (t.mode ≠ .off ∧ t.interval ≤ t.elapsed)

/-- The event of the link or the store whose time has come, if there is one. -/
def State.linkDue (s : State) : Option Instr :=
  (dueIf (match s.link.sending with | some f => decide (f.left = 0) | none => false) .frameSent).orElse fun _ =>
  (dueIf (Timer.out s.link.receiver.gapTimer && decide (s.link.receiver.state ≠ .hunt)) .receiveGap).orElse fun _ =>
  dueIf (Timer.out s.store.saveTimer && s.store.snapshot.isSome) .saveComplete

/-- A stage waits for the plant to stand, and it stands (R182, R184). -/
def State.stageDue (s : State) : Option Instr :=
  (dueIf (decide (s.seq.state = .deployRaise ∧ s.seq.issued = false
      ∧ (s.mast.state = .nested ∨ s.mast.state = .rest ∨ s.mast.state = .topping))) .deployRaiseIssue).orElse fun _ =>
  dueIf (decide (s.seq.state = .deploySearch ∧ s.seq.issued = false ∧ s.dishAtRest = true ∧ s.mast.state = .rest)) .deploySearchIssue

/-- The event of a search, a sequence or an interval timer whose time has come, if there is one. -/
def State.slowDue (s : State) : Option Instr :=
  (dueIf (Timer.out s.search.dwellTimer && s.searching && decide (s.search.measuring = .dwelling)) .searchDwellDone).orElse fun _ =>
  (dueIf (decide (s.sense.gateElapsed ≥ s.work.sense.gateLength)) .gateEnd).orElse fun _ =>
  (dueIf (decide (s.seq.state = .deployTx ∧ s.seq.txWait = some 0)) .txWaitTimeout).orElse fun _ =>
  (dueIf s.trackTimer.due .trackExpiry).orElse fun _ =>
  dueIf s.report.due .reportExpiry

/-- The first event of the table whose time has come. -/
def State.due (s : State) : Option Instr :=
  s.linkDue.orElse fun _ => s.stageDue.orElse fun _ => s.lineDue.orElse fun _ =>
  (s.axisDue .pan).orElse fun _ => (s.axisDue .tilt).orElse fun _ => (s.axisDue .pol).orElse fun _ =>
  s.mastDue.orElse fun _ => s.sourceDue.orElse fun _ => s.slowDue

end Sys2Proof.Machine
end

