-- ==== Sys2Proof/Machine/Dispatch.lean ====
section
/-! DEFINITION. The dispatch: one arm for each command of the table, each a direct call of its meaning. -/

namespace Sys2Proof.Machine

open Sys2Proof

def exec (i : Instr) (s : State) : Host.Outcome State Fault Refusal :=
  match i with
  | .powerOn => Sys2Proof.Machine.execPowerOn s
  | .resetLine => Sys2Proof.Machine.execResetLine s
  | .byteReceived b => Sys2Proof.Machine.execByteReceived b s
  | .receiveGap => Sys2Proof.Machine.execReceiveGap s
  | .lineFault => Sys2Proof.Machine.execLineFault s
  | .unknownKindFrame kind tag payload => Sys2Proof.Machine.execUnknownKindFrame kind tag payload s
  | .frameSent => Sys2Proof.Machine.execFrameSent s
  | .ident tag => Sys2Proof.Machine.execIdent tag s
  | .restart tag => Sys2Proof.Machine.execRestart tag s
  | .save tag => Sys2Proof.Machine.execSave tag s
  | .saveComplete => Sys2Proof.Machine.execSaveComplete s
  | .siteStore tag number lat lon alt pol beaconFloor beaconCeiling name => Sys2Proof.Machine.execSiteStore tag number lat lon alt pol beaconFloor beaconCeiling name s
  | .siteErase tag number => Sys2Proof.Machine.execSiteErase tag number s
  | .siteRead tag number => Sys2Proof.Machine.execSiteRead tag number s
  | .fix tag lat lon alt headingFlag heading => Sys2Proof.Machine.execFix tag lat lon alt headingFlag heading s
  | .solve tag site extFlag ext => Sys2Proof.Machine.execSolve tag site extFlag ext s
  | .aim tag site => Sys2Proof.Machine.execAim tag site s
  | .solutionRead tag => Sys2Proof.Machine.execSolutionRead tag s
  | .mapWrite tag layer first count attr height => Sys2Proof.Machine.execMapWrite tag layer first count attr height s
  | .mapRead tag layer first count => Sys2Proof.Machine.execMapRead tag layer first count s
  | .ceilingSet tag height => Sys2Proof.Machine.execCeilingSet tag height s
  | .stowAzimuth tag z => Sys2Proof.Machine.execStowAzimuth tag z s
  | .bodyLock tag => Sys2Proof.Machine.execBodyLock tag s
  | .violationRead tag => Sys2Proof.Machine.execViolationRead tag s
  | .violationAck tag => Sys2Proof.Machine.execViolationAck tag s
  | .axisTarget tag axis position => Sys2Proof.Machine.execAxisTarget tag axis position s
  | .axisMoment tag axis moment => Sys2Proof.Machine.execAxisMoment tag axis moment s
  | .sync tag => Sys2Proof.Machine.execSync tag s
  | .axisStop tag axis => Sys2Proof.Machine.execAxisStop tag axis s
  | .jog tag axis direction speed => Sys2Proof.Machine.execJog tag axis direction speed s
  | .jogDeadmanExpiry axis => Sys2Proof.Machine.execJogDeadmanExpiry axis s
  | .home tag axis => Sys2Proof.Machine.execHome tag axis s
  | .stow tag => Sys2Proof.Machine.execStow tag s
  | .axisRead tag axis => Sys2Proof.Machine.execAxisRead tag axis s
  | .slewSet tag axis slewClass => Sys2Proof.Machine.execSlewSet tag axis slewClass s
  | .indexSet tag axis position => Sys2Proof.Machine.execIndexSet tag axis position s
  | .axisEncoderMove axis delta => Sys2Proof.Machine.execAxisEncoderMove axis delta s
  | .axisSettleDone axis => Sys2Proof.Machine.execAxisSettleDone axis s
  | .axisStallTimeout axis => Sys2Proof.Machine.execAxisStallTimeout axis s
  | .mastTo tag height => Sys2Proof.Machine.execMastTo tag height s
  | .mastLower tag => Sys2Proof.Machine.execMastLower tag s
  | .mastStop tag => Sys2Proof.Machine.execMastStop tag s
  | .mastRead tag => Sys2Proof.Machine.execMastRead tag s
  | .mastParam tag name value => Sys2Proof.Machine.execMastParam tag name value s
  | .mastEncoderCount up => Sys2Proof.Machine.execMastEncoderCount up s
  | .mastSettleDone => Sys2Proof.Machine.execMastSettleDone s
  | .mastStallTimeout => Sys2Proof.Machine.execMastStallTimeout s
  | .conversion channel count => Sys2Proof.Machine.execConversion channel count s
  | .lineRawChange line level => Sys2Proof.Machine.execLineRawChange line level s
  | .debounceExpiry line => Sys2Proof.Machine.execDebounceExpiry line s
  | .anemometerPulse sinceUs => Sys2Proof.Machine.execAnemometerPulse sinceUs s
  | .gateEnd => Sys2Proof.Machine.execGateEnd s
  | .senseRead tag => Sys2Proof.Machine.execSenseRead tag s
  | .calSet tag item value => Sys2Proof.Machine.execCalSet tag item value s
  | .limitSet tag tiltLimit supplyLow => Sys2Proof.Machine.execLimitSet tag tiltLimit supplyLow s
  | .windSet tag gateLength windRun windLimit => Sys2Proof.Machine.execWindSet tag gateLength windRun windLimit s
  | .releaseTimerExpiry source => Sys2Proof.Machine.execReleaseTimerExpiry source s
  | .tripConfig tag source enable mode delay raising lowering rest positioner transmit => Sys2Proof.Machine.execTripConfig tag source enable mode delay raising lowering rest positioner transmit s
  | .tripRead tag => Sys2Proof.Machine.execTripRead tag s
  | .tripClear tag sources => Sys2Proof.Machine.execTripClear tag sources s
  | .search tag kind origin site => Sys2Proof.Machine.execSearch tag kind origin site s
  | .searchDwellDone => Sys2Proof.Machine.execSearchDwellDone s
  | .searchAbort tag => Sys2Proof.Machine.execSearchAbort tag s
  | .searchRead tag => Sys2Proof.Machine.execSearchRead tag s
  | .searchParam tag profile initialStep minStep margin dwell samples budget radius => Sys2Proof.Machine.execSearchParam tag profile initialStep minStep margin dwell samples budget radius s
  | .track tag choice interval => Sys2Proof.Machine.execTrack tag choice interval s
  | .trackExpiry => Sys2Proof.Machine.execTrackExpiry s
  | .reportExpiry => Sys2Proof.Machine.execReportExpiry s
  | .txRequest tag choice => Sys2Proof.Machine.execTxRequest tag choice s
  | .txRead tag => Sys2Proof.Machine.execTxRead tag s
  | .deploy tag site height options interval => Sys2Proof.Machine.execDeploy tag site height options interval s
  | .deployRaiseIssue => Sys2Proof.Machine.execDeployRaiseIssue s
  | .deploySearchIssue => Sys2Proof.Machine.execDeploySearchIssue s
  | .txWaitTimeout => Sys2Proof.Machine.execTxWaitTimeout s
  | .stowAll tag => Sys2Proof.Machine.execStowAll tag s
  | .halt tag => Sys2Proof.Machine.execHalt tag s
  | .seqRead tag => Sys2Proof.Machine.execSeqRead tag s
  | .noticeMask tag kinds => Sys2Proof.Machine.execNoticeMask tag kinds s
  | .hush tag => Sys2Proof.Machine.execHush tag s
  | .unhush tag => Sys2Proof.Machine.execUnhush tag s
  | .pendingClear tag kinds => Sys2Proof.Machine.execPendingClear tag kinds s
  | .timerSet tag timer mode interval => Sys2Proof.Machine.execTimerSet tag timer mode interval s
  | .timerRead tag timer => Sys2Proof.Machine.execTimerRead tag timer s

end Sys2Proof.Machine
end

