-- ==== Sys2Proof/Machine/Idle.lean ====
section
/-! DEFINITION. The step on an empty queue: time passes (log entry 7). -/

namespace Sys2Proof.Machine

open Sys2Proof

/-- What happens while no command waits: an event whose time has come, or one millisecond (DESIGN CHOICE, log entry 7). -/
def idleStep (s : State) : Host.Outcome State Fault Refusal :=
  match s.due with
  | some i => exec i s
  | none => .next s.tick.arbitrate

end Sys2Proof.Machine
end

