-- ==== Sys2Proof/Safety.lean ====
section
/-! DEFINITION. The terms in which statements about the AL40 are made: when the link takes a request at once and what it answers, when
the plant is calm, and the invariants that every step keeps. -/

namespace Sys2Proof.Machine

open Sys2Proof

/-! ## Requests and replies -/

/-- The link takes a request the moment its frame is whole, and has room for its reply (R196). -/
abbrev State.takesNow (s : State) : Prop :=
  s.link.waiting = none ∧ s.link.restarting = false ∧ s.link.queue = [] ∧ s.link.replies.length < replyRoom

/-- The newest reply is the one to a request of this kind and tag, with this status and these contents (R196, R197). -/
def Replied (t : State) (kind tag : Byte) (st : Status) (body : List Byte) : Prop :=
  t.newestReply = some (kind + 0x80, tag, statusByte st :: body)

/-! ## What a command is answered -/

/-- The command is a request that the link takes at once: it is answered with this status and these contents, and leaves the state
`u`, but for the link's own state. -/
def Answered (c : Instr) (s : State) (kind tag : Byte) (st : Status) (body : List Byte) (u : State) : Prop :=
  ∃ t, exec c s = .next t ∧ Replied t kind tag st body ∧ t = { u with link := t.link }

/-- The bytes received one after the other. -/
def receiveAll : List Byte → State → Host.Outcome State Fault Refusal
  | [], s => .next s
  | b :: bs, s =>
    match exec (.byteReceived b) s with
    | .next t => receiveAll bs t
    | o => o

/-! ## A calm plant -/

/-- The mast goes on as it is: at its present counter, raise limit and stow window no motion ends, pauses, resumes or starts (R86, R88,
R89, R92, R93). -/
def State.mastSteady (s : State) : Bool :=
  let m := s.mast
  match m.state with
  | .unref | .nested | .settling => true
  | .rest => !s.sagging
  | .raising | .topping => !s.raiseDone m.stopCount
  | .nudging => if m.nudgeUp then !s.raiseDone (m.target / 2) else !decide (m.counter ≤ m.target / 2) && !s.mustPause s.pausePoint
  | .lowering =>
    !(decide (m.target = 0) && s.lines.nest.level) && !decide (0 < m.target ∧ m.counter ≤ m.stopCount) && !s.mustPause s.pausePoint
  | .clearWait => !(decide (m.target = 0) && !m.waitsForNudge && s.lines.nest.level) && !s.windowClosed
  | .held => false

/-- No trip source contributes and none has acted on the positioner, the transmit request is clear, and the mast goes on as it is:
nothing happens but what is commanded. -/
abbrev State.Calm (s : State) : Prop :=
  s.action = {} ∧ s.pos.enacted = .noAction ∧ s.pos.owner ≠ .trip ∧ s.gate.request = false ∧ s.gate.state = .off ∧ s.mastSteady = true

/-! ## The invariants -/

/-- The link's queues hold at most four each (R195, R196). -/
def State.LinkBounded (s : State) : Prop := s.link.queue.length ≤ frameRoom ∧ s.link.replies.length ≤ replyRoom

/-- The outputs are on only in the mast states that the table of R83 gives them. -/
def State.OutputsMatch (s : State) : Prop :=
  (s.mast.compressor = true → s.mast.state = .raising ∨ s.mast.state = .topping ∨ (s.mast.state = .nudging ∧ s.mast.nudgeUp = true))
    ∧ (s.mast.vent = true → s.mast.state = .lowering ∨ (s.mast.state = .nudging ∧ s.mast.nudgeUp = false))

/-- VENT is open only where the clearance rule allows it (R89, R90): the stow window is closed, or the mast is referenced and its target
lies at or above the clearance height or its counter above the pause point. The one exception is a MAST_LOWER that has been taken,
but whose lowering does not start before its reply has found a place (R98, R196). -/
def State.ClearanceKept (s : State) : Prop :=
  s.mast.vent = true →
    s.windowClosed = true
      ∨ (s.mast.referenced = true ∧ (s.work.mast.clearance ≤ s.mast.target ∨ s.pausePoint < s.mast.counter))
      ∨ (s.mast.owner = .console ∧ ∃ r, s.link.waiting = some (r, .mastLower))

/-- The gate state is the one that the request and the permit conditions give (R167, R171). -/
def State.GateExact (s : State) : Prop := s.gate.state = s.gateVerdict

/-- The remaining path of a referenced pan enters no BLOCKED sector: to the active target of a move, to the end point of a jog (R35). -/
def State.PanPathClear (s : State) : Prop :=
  s.pos.pan.referenced = true →
    (s.pos.pan.motion = .slewing ∨ s.pos.pan.motion = .settling →
      s.work.map.firstBlocked s.pos.pan.position s.pos.pan.target = none)
    ∧ (s.pos.pan.motion = .jogging → ∀ j e, s.pos.pan.jog = some j → j.endPoint = some e →
        s.work.map.firstBlocked s.pos.pan.position e = none)

/-- The remaining path of a referenced pan that homes, to its index position, enters no BLOCKED sector (R35, R38). -/
def State.HomingPathClear (s : State) : Prop :=
  s.pos.pan.referenced = true → s.pos.pan.motion = .homing → ∀ h, s.pos.pan.homing = some h → h.begunReferenced = true →
    s.work.map.firstBlocked s.pos.pan.position (s.axisSettings .pan).indexPosition = none

/-- An axis in UNREF is unreferenced, and one in REST is referenced (R51, R57). -/
def State.AxesSound (s : State) : Prop :=
  ∀ a, ((s.axis a).motion = .unref → (s.axis a).referenced = false) ∧ ((s.axis a).motion = .rest → (s.axis a).referenced = true)

/-- A list of sites is in ascending number order, no two of one number, and none above 15 (R1). -/
abbrev sitesOrdered (l : List Site) : Prop := l.Pairwise (fun a b => a.number < b.number) ∧ ∀ r ∈ l, r.number ≤ 15

/-- The ranges of the map settings, and the stow sector that is BLOCKED in neither layer (R30, R33, R42, R46). -/
structure MapSound (m : MapSettings) : Prop where
  body : m.body.length = 72
  survey : m.survey.length = 72
  azimuth : m.stowAzimuth ≤ 35999
  stowBody : (m.bodyRec m.stowSector).attr ≠ .blocked
  stowSurvey : (m.surveyRec m.stowSector).attr ≠ .blocked
  ceiling : m.ceiling = 0 ∨ (1000 ≤ m.ceiling ∧ m.ceiling ≤ 20000)

/-- The ranges of the mast settings, and the clearance height that lies at or below the maximum extension (R83, R101). -/
structure MastSound (m : MastSettings) : Prop where
  maxExtension : 1000 ≤ m.maxExtension ∧ m.maxExtension ≤ 15000
  stowedPivot : 1500 ≤ m.stowedPivot ∧ m.stowedPivot ≤ 5000
  clearance : 500 ≤ m.clearance ∧ m.clearance ≤ 5000
  stopLead : m.stopLead ≤ 300
  tolerance : 10 ≤ m.tolerance ∧ m.tolerance ≤ 200
  sagAllowance : 50 ≤ m.sagAllowance ∧ m.sagAllowance ≤ 500
  order : m.clearance ≤ m.maxExtension

/-- The ranges of a search profile (R142, R163). -/
structure ProfileSound (p : Profile) : Prop where
  initialStep : 5 ≤ p.initialStep ∧ p.initialStep ≤ 500
  minStep : 5 ≤ p.minStep ∧ p.minStep ≤ 100
  order : p.minStep ≤ p.initialStep
  samples : p.samples = 4 ∨ p.samples = 8 ∨ p.samples = 16 ∨ p.samples = 32
  budget : 8 ≤ p.budget ∧ p.budget ≤ 60
  margin : p.margin ≤ 255
  dwell : 50 ≤ p.dwell ∧ p.dwell ≤ 2000
  radius : 50 ≤ p.radius ∧ p.radius ≤ 1000

/-- The settings stand in their ranges. -/
structure WorkSound (w : WorkSettings) : Prop where
  map : MapSound w.map
  mast : MastSound w.mast
  acquire : ProfileSound w.acquire
  track : ProfileSound w.track

/-- The working settings, those of the image and those of a snapshot stand in their ranges, and their sites are in order (R1, R212). -/
def State.SettingsSound (s : State) : Prop :=
  WorkSound s.work ∧ sitesOrdered s.sites ∧ WorkSound s.store.image.work ∧ sitesOrdered s.store.image.sites
    ∧ ∀ x, s.store.snapshot = some x → WorkSound x.work ∧ sitesOrdered x.sites

/-- The mast and filter bounds (R81, R104): the counter is at most 8000, and no filter holds more than 16 counts. -/
def State.CountsBounded (s : State) : Prop :=
  s.mast.counter ≤ 8000 ∧ s.sense.level.filter.length ≤ 16 ∧ s.sense.pitch.filter.length ≤ 16
    ∧ s.sense.roll.filter.length ≤ 16 ∧ s.sense.supply.filter.length ≤ 16

/-- The invariant of the model. -/
structure State.Inv (s : State) : Prop where
  link : s.LinkBounded
  outputs : s.OutputsMatch
  clearance : s.ClearanceKept
  gate : s.GateExact
  settings : s.SettingsSound
  counts : s.CountsBounded

/-- What every trip source is: one that is disabled is CLEAR (R122); one in RELEASING is SELF_CLEARING (R124); a staged configuration is an
enabled one, of a source that is not CLEAR (R132); a fixed source is enabled, LATCHED and without a staged copy (R121, R135). -/
structure SourceSound (n : Source) (r : SourceRec) : Prop where
  disabled : r.config.enabled = false → r.state = .clear
  releasing : r.state = .releasing → r.config.mode = .selfClearing
  staged : ∀ c, r.staged = some c → c.enabled = true ∧ r.state ≠ .clear
  fixed : configurable n = false → r.config.enabled = true ∧ r.config.mode = .latched ∧ r.staged = none

/-- Every trip source is sound. -/
def State.TripsSound (s : State) : Prop := ∀ n, SourceSound n (s.trips.source n)

/-- A probe lies within the search radius of the place where the search started, in both axes (R149). -/
def Search.within (q : Search) (p : Probe) : Prop :=
  (p.pan - q.startPan).natAbs ≤ q.profile.radius ∧ (p.tilt - q.startTilt).natAbs ≤ q.profile.radius

/-- The bounds of a search: the probes measured never exceed the budget (R150), every level in the probe list was measured within the
radius, a running search has a profile in its ranges (R142), one at its centre has measured no probe and has a step not below the minimum
(R144), and one that probes has budget left, four probes in its list, such a step, and measures within the radius alone (R149 to R151). -/
structure State.SearchBounded (s : State) : Prop where
  budget : s.search.measured ≤ s.search.profile.budget
  radius : ∀ p ∈ s.search.probes, ∀ v, p.outcome = .level v → s.search.within p
  profile : s.search.state ≠ .idle → ProfileSound s.search.profile
  centre : s.search.state = .measureCentre → s.search.measured = 0 ∧ s.search.profile.minStep ≤ s.search.step
  probing : s.search.state = .probing →
    s.search.measured < s.search.profile.budget ∧ s.search.probes.length = 4 ∧ s.search.profile.minStep ≤ s.search.step
      ∧ (s.search.measuring ≠ .idle → s.search.probeAt < 4 ∧ s.search.within (s.search.probe s.search.probeAt))

/-- What the body lock freezes (R39), the trip configuration as TRIP_CONFIG last wrote it (R135). -/
structure Frozen where
  body : List SectorRec
  slew : List SlewClass
  maxExtension : Nat
  stowedPivot : Nat
  clearance : Nat
  stowAzimuth : Nat
  indexes : List Int
  trips : TripSettings
  deriving DecidableEq, Repr

/-- The frozen settings of a state (R39). -/
def State.frozen (s : State) : Frozen :=
  { body := s.work.map.body
    slew := allAxes.map (fun a => (s.axisSettings a).slewClass)
    maxExtension := s.work.mast.maxExtension
    stowedPivot := s.work.mast.stowedPivot
    clearance := s.work.mast.clearance
    stowAzimuth := s.work.map.stowAzimuth
    indexes := allAxes.map (fun a => (s.axisSettings a).indexPosition)
    trips := s.trips.settings }

end Sys2Proof.Machine
end

