-- ==== Sys2Proof/Certificates/Slice0/Obligations.lean ====
section
/-! DEFINITION. The statements for the provers, each with the rules of the manual that it formalises. A request is stated by what it is
answered and by the whole state it leaves; an event by the whole state it leaves, before an idle transmitter decides what to send. -/

section Slice0Obligations

open Sys2Proof Sys2Proof.Machine

/-! ## The machine as a whole -/

/-- A step carries out the command at the front of the queue, on the state with the queue's rest; with none waiting, an event whose time
has come happens, or a millisecond passes and an idle transmitter decides what to send (log entry 7). -/
def Obligations.StepRunsTheFrontCommand : Prop :=
  (∀ (c : Instr) (cs : List Instr) (s : State), step { s with pending := c :: cs } = exec c { s with pending := cs })
    ∧ ∀ s : State, s.pending = [] → step s = (match s.due with | some i => exec i s | none => .next s.tick.arbitrate)

/-- The state right after reset meets the invariant, and the bounds of the trip sources and of the search. -/
def Obligations.ResetMeetsTheInvariant : Prop := State.reset.Inv ∧ State.reset.TripsSound ∧ State.reset.SearchBounded

/-- Every step, of whatever command, keeps the invariant: the queues' bounds (R195, R196), the outputs and states of the mast (R83), the
clearance rule (R89, R90), the permit (R167, R171), the ranges and the order of the settings (R1, R31, R83, R101, R163). -/
def Obligations.EveryStepKeepsTheInvariant : Prop := ∀ s t : State, s.Inv → step s = .next t → t.Inv

/-- While the lock is set, nothing but a power-on or the RESET line clears it or changes what it freezes (R39). -/
def Obligations.LockFreezesItsSettings : Prop :=
  ∀ (c : Instr) (s t : State), s.lock = true → c ≠ .powerOn → c ≠ .resetLine → exec c s = .next t →
    t.lock = true ∧ t.frozen = s.frozen

/-- TX_PERMIT is asserted only while the request and all the permit conditions hold (R167 to R169). -/
def Obligations.PermitNeedsEveryCondition : Prop :=
  ∀ s t : State, s.Inv → step s = .next t → t.txPermit = true →
    t.gate.request = true ∧ t.action.transmit = .noAction ∧ (t.mast.state = .rest ∨ t.mast.state = .topping)
      ∧ axisPermits t.pos.pan t.trackSearching = true ∧ axisPermits t.pos.tilt t.trackSearching = true
      ∧ t.lines.tiltStow.level = false
      ∧ ∀ r, t.recordUnderPan = some r →
        r.attr ≠ .noTx ∧ r.attr ≠ .blocked ∧ (r.attr = .shadow → r.height ≤ t.pivotHeight)

/-- An axis in UNREF is unreferenced and one in REST referenced, after reset and after every step (R51, R57). No command sets a referenced pan
on a path that enters a BLOCKED sector, or leaves it on one (R35, R38): the path of a move to its target, of a jog to its end point, and, for
every command that leaves the pan's index position with no INDEX_SET waiting behind it, of a homing begun while referenced to the index
position. A count of the pan's encoder keeps such a path clear where it runs along it. A count against it, and for moves and jogs an edge of
the pan's index line, which corrects the position (R65), set the pan where the plant stands, not by a command; a new index position moves
the end of a homing in progress. -/
def Obligations.NoCommandAimsThePanThroughABlockedSector : Prop :=
  State.reset.AxesSound
  ∧ (∀ s t : State, s.AxesSound → step s = .next t → t.AxesSound)
  ∧ (∀ (c : Instr) (s t : State), (∀ d, c ≠ .axisEncoderMove .pan d) → exec c s = .next t →
    (c ≠ .debounceExpiry .panIndex → s.PanPathClear → t.PanPathClear)
      ∧ (s.AxesSound → s.HomingPathClear → (∀ f ∈ s.link.queue, f.kind ≠ 0x29) →
        (t.axisSettings .pan).indexPosition = (s.axisSettings .pan).indexPosition → t.HomingPathClear))
  ∧ ∀ (s t : State) (up : Bool), exec (.axisEncoderMove .pan (if up then 1 else 0xFFFF)) s = .next t →
    let x := s.pos.pan
    let along (e : Int) : Prop := if up then x.position < e else e < x.position
    (s.PanPathClear → (x.motion = .slewing ∨ x.motion = .settling → along x.target) →
        (x.motion = .jogging → ∀ j e, x.jog = some j → j.endPoint = some e → along e) →
      t.PanPathClear)
    ∧ (s.AxesSound → s.HomingPathClear → (x.motion = .homing → along (s.axisSettings .pan).indexPosition) → t.HomingPathClear)

/-! ## The console link -/

/-- The frame of every well-formed request spells that request again, and the frame of an unknown kind spells none (R193, R196). A request's
fields are laid out as log entry 9 says. -/
def Obligations.FramesSpellTheirRequests : Prop :=
  ∀ (i : Instr) (f : Frame), i.wellFormed = true → encodeFrame i = some f →
    decodeFrame f = (match i with | .unknownKindFrame _ _ _ => none | j => some j)

/-- The bytes of a frame, received one after the other while the transmitter is busy, act as the request that the frame carries (R193 to
R196). A request command is such a frame by the model's choice (log entries 2, 9). -/
def Obligations.BytesOfAFrameActAsItsRequest : Prop :=
  ∀ (i : Instr) (f : Frame) (s : State), i.wellFormed = true → encodeFrame i = some f →
    s.link.receiver = {} → s.link.sending.isSome = true → receiveAll (frameBytes f) s = exec i s

/-- The receiver follows its table: lead, length, kind, tag, payload and the two CRC bytes; a frame whose CRC does not match is discarded
without a trace. A gap longer than 20 ms in a frame, a low stop bit, and a line held low for longer than one byte time discard the partial
frame (R194). -/
def Obligations.ReceiverFollowsItsTable : Prop :=
  ∀ (s : State) (b : Byte),
    let r := s.link.receiver
    let put (q : Receiver) : Host.Outcome State Fault Refusal :=
      .next ({ s with link := { s.link with receiver := q } }).arbitrate
    let hunted : Receiver := if b = 0xC3 then { state := .length, gapTimer := some 21 } else {}
    (r.state = .hunt → exec (.byteReceived b) s = put hunted)
      ∧ (r.state = .length → exec (.byteReceived b) s
          = put (if b.toNat ≤ 120 then { r with state := .kind, length := b.toNat, gapTimer := some 21 } else hunted))
      ∧ (r.state = .kind → exec (.byteReceived b) s = put { r with state := .tag, kind := b, gapTimer := some 21 })
      ∧ (r.state = .tag → exec (.byteReceived b) s
          = put { r with state := if r.length = 0 then .check else .payload, tag := b, gapTimer := some 21 })
      ∧ (r.state = .payload → exec (.byteReceived b) s
          = put { r with
              state := if r.length ≤ r.payload.length + 1 then .check else .payload
              payload := r.payload ++ [b], gapTimer := some 21 })
      ∧ (r.state = .check → r.crc = [] → exec (.byteReceived b) s = put { r with crc := [b], gapTimer := some 21 })
      ∧ (∀ c, r.state = .check → r.crc = [c] →
          frameCrc { kind := r.kind, tag := r.tag, payload := r.payload } ≠ halfOf c b → exec (.byteReceived b) s = put {})
      ∧ exec .receiveGap s = put (if r.state = .hunt then r else {})
      ∧ exec .lineFault s = put {}

/-- A request that arrives while an earlier one still waits for its reply, or after a RESTART has been taken, joins the receive queue; if
the queue holds 4 frames it is discarded, without a trace. A frame of an unknown kind is answered FORMAT and changes nothing; the reply's
kind is the frame's plus 0x80 for a kind from 0x01 to 0x5F, and 0x80 for any other. A frame of a request kind whose payload has not the length
that the kind permits is answered FORMAT under its own kind (R195, R196, R200). The frames, and the lengths that their layouts give,
are those of log entries 2 and 9. -/
def Obligations.FramesAreQueuedDiscardedOrAnsweredFormat : Prop :=
  (∀ (i : Instr) (f : Frame) (s : State), encodeFrame i = some f → s.link.waiting.isSome = true ∨ s.link.restarting = true →
    (s.link.queue.length < 4 → exec i s = .next ({ s with link := { s.link with queue := s.link.queue ++ [f] } }).arbitrate)
      ∧ (4 ≤ s.link.queue.length → exec i s = .next s.arbitrate))
  ∧ (∀ (s : State) (kind tag : Byte) (payload : List Byte), s.takesNow → requestKinds.contains kind = false →
    Answered (.unknownKindFrame kind tag payload) s (if 0x01 ≤ kind.toNat ∧ kind.toNat ≤ 0x5F then kind else 0) tag .format [] s)
  ∧ ∀ (s : State) (kind tag : Byte) (payload : List Byte), s.takesNow →
    let lengths : List (Nat × List Nat) :=
      [(0, [0x01, 0x02, 0x03, 0x13, 0x1C, 0x1D, 0x1E, 0x22, 0x26, 0x31, 0x32, 0x33, 0x38, 0x41, 0x45, 0x46, 0x4D, 0x51, 0x52, 0x53, 0x59, 0x5A]),
       (1, [0x09, 0x0A, 0x12, 0x23, 0x25, 0x27, 0x4C, 0x5D]), (2, [0x1A, 0x1B, 0x21, 0x28, 0x30, 0x42, 0x58, 0x5B]),
       (3, [0x19, 0x20, 0x24, 0x29, 0x34, 0x39, 0x44, 0x48]), (4, [0x11, 0x3A, 0x5C]), (6, [0x18, 0x3B]), (7, [0x50]), (10, [0x40]),
       (13, [0x47]), (15, [0x10])]
    (∃ e ∈ lengths, kind.toNat ∈ e.2 ∧ payload.length ≠ e.1)
        ∨ (kind = 0x08 ∧ (payload.length < 20 ∨ payload.length ≠ 20 + (payload.getD 19 0).toNat)) →
      Answered (.unknownKindFrame kind tag payload) s kind tag .format [] s

/-- When a frame has left the line, the next segment of its reply follows; else the oldest reply; else the eligible notice of highest
priority, formed from the state as it stands, its pending flag cleared; else the transmitter is idle. A formed reply that waited for a place joins the
queue once there is one, and the next frame of the receive queue is then taken, as its command is (R196, R198, R204). The bytes of a notice are laid out as log entries 9 and 34 say. -/
def Obligations.TransmitterTakesRepliesThenNotices : Prop :=
  ∀ (s : State), ∀ f, s.link.sending = some f →
    (∀ p ps, f.rest = p :: ps → exec .frameSent s
      = .next { s with link := { s.link with
          sending := some { f with frame := { f.frame with payload := p }, rest := ps, left := frameTime p } } })
    ∧ (f.rest = [] → f.restarts = false → s.link.waiting = none → s.link.queue = [] →
      (∀ r rs, s.link.replies = r :: rs → ∀ p ps, r.parts = p :: ps → exec .frameSent s
        = .next { s with link := { s.link with
            replies := rs
            sending := some
              { frame := { kind := r.kind, tag := r.tag, payload := p }, rest := ps, restarts := r.restarts, left := frameTime p } } })
      ∧ (∀ k, s.link.replies = [] → s.notices.eligible k = true →
          (∀ j, (noticeCode j).toNat < (noticeCode k).toNat → s.notices.eligible j = false) →
          exec .frameSent s
            = .next { s with
                notices := { s.notices with pending := s.notices.pending &&& ~~~k.bit }
                link := { s.link with
                  sending := some
                    { frame := { kind := noticeCode k, tag := 0, payload := noticePayload s k }
                      left := frameTime (noticePayload s k) } } })
      ∧ (s.link.replies = [] → (∀ k, s.notices.eligible k = false) →
          exec .frameSent s = .next { s with link := { s.link with sending := none } }))
    ∧ (f.rest = [] → f.restarts = false → ∀ w, s.link.waiting = some (w, .nothing) →
      ∀ x xs, s.link.replies = x :: xs → xs.length < 4 → ∀ p ps, x.parts = p :: ps →
      let joined : State :=
        { s with link := { s.link with
            waiting := none
            queue := []
            replies := xs ++ [w]
            sending := some
              { frame := { kind := x.kind, tag := x.tag, payload := p }, rest := ps, restarts := x.restarts, left := frameTime p } } }
      (s.link.queue = [] → exec .frameSent s = .next joined)
      ∧ ∀ g i, s.link.queue = [g] → s.link.restarting = false → i.wellFormed = true → encodeFrame i = some g →
        exec .frameSent s = exec i joined)

/-! ## Resets -/

/-- POWER_ON and the RESET line load the image, or the factory defaults where its CRC does not match or a write was cut off, and bring
every block to its values at reset: the lines to their raw levels, the front end emptied, each trip source CLEAR or, where its cause stands
and it is enabled, ACTIVE; STARTED is the first frame sent. Where no cause of the van's lines stands, the whole state is as the reset tables
say, the axes, the mast and the positioner's owner included (R7, R8, R13, R39, R50, R80, R102, R112, R120, R140, R165, R175, R192,
R201, R211, R213, R215). The match of the CRC is a flag (log entry 13), and what no reset table names is as log entry 14 says. -/
def Obligations.ColdResetsLoadTheImage : Prop :=
  ∀ (s : State) (c : Instr) (k : ResetKind), (c = .powerOn ∧ k = .powerOn) ∨ (c = .resetLine ∧ k = .resetLine) →
    let good := s.store.imageGood && s.store.snapshot.isNone
    let x := if good then s.store.image else factorySettings
    let cause : Source → Bool := fun n =>
      match n with
      | .estop => s.lines.estop.raw
      | .drive => !s.lines.brake.raw || s.lines.drive.raw
      | .pressure => contactCause x.work.sense.pressurePolarity s.lines.pressure.raw
      | .aux => contactCause x.work.sense.auxPolarity s.lines.aux.raw
      | _ => false
    (∃ t, exec c s = .next t ∧ t.pending = s.pending ∧ t.work = x.work ∧ t.sites = x.sites ∧ t.trips.settings = x.trips
      ∧ t.fix = none ∧ t.fixNumber = 0 ∧ t.solution = {} ∧ t.lock = false ∧ t.violation = none ∧ t.more = false
      ∧ t.search = {} ∧ t.tracking = {} ∧ t.gate = {} ∧ t.seq = {} ∧ t.report = {} ∧ t.trackTimer = {}
      ∧ (∀ a, (t.axis a).referenced = false ∧ (t.axis a).slot = none)
      ∧ t.mast.counter = 0 ∧ t.mast.referenced = s.lines.nest.raw
      ∧ t.sense = resetSense x.work.sense ∧ t.lines = s.lines.reset
      ∧ (∀ n, t.trips.source n
          = { (clearTrips x.trips).source n with
              cause := cause n
              state := if cause n && ((clearTrips x.trips).source n).config.enabled then .active else .clear })
      ∧ t.store = { image := s.store.image, imageGood := good, storeBad := !good }
      ∧ t.notices.masks = 0 ∧ t.notices.hush = false ∧ t.notices.lastReset = k
      ∧ t.link.queue = [] ∧ t.link.replies = [] ∧ t.link.waiting = none ∧ t.link.restarting = false ∧ t.link.receiver = {}
      ∧ ∃ f, t.link.sending = some f ∧ f.frame.kind = 0xE0 ∧ f.frame.tag = 0)
    ∧ ((∀ n, cause n = false) →
      exec c s
        = .next (State.arbitrate
          { pending := s.pending, work := x.work, sites := x.sites, fix := none, fixNumber := 0, solution := {}, lock := false
            violation := none, more := false, pos := {}
            mast := { referenced := s.lines.nest.raw, state := if s.lines.nest.raw then .nested else .unref }
            sense := resetSense x.work.sense, lines := s.lines.reset, trips := clearTrips x.trips, search := {}, tracking := {}
            gate := {}, seq := {}, link := {}, notices := { pending := 1, lastReset := k }, report := {}, trackTimer := {}
            store := { image := s.store.image, imageGood := good, storeBad := !good } }))

/-- RESTART is answered OK first, and no further frame is taken. When its reply has left the line it takes effect: the working settings,
the sites with their learned offsets, the fix, the lock, a write in flight and the references of the axes are kept, and the other state is
reset, each trip source judged afresh; STARTED is the first frame sent. Where no cause of the van's lines stands, the whole state is as the
reset tables say: the violation record empty, each axis at rest or unreferenced where it stands, the mast nested, at rest or unreferenced at its
counter, what moved STOPPED (R7, R8, R13, R39, R50, R80, R82, R102, R112, R120, R140, R165, R175, R192, R200, R202, R211). What counts as
moving, and as a NEST that closes, is as log entry 17 says; what no reset table names, and the direction of an axis's last
count that is kept, as log entry 14; that a referenced mast takes its extension as its target also above the raise limit, as log entry 36. -/
def Obligations.RestartTakesEffectAfterItsReply : Prop :=
  ∀ (s : State) (tag : Byte),
    let cause : Source → Bool := fun n =>
      match n with
      | .estop => s.lines.estop.raw
      | .drive => !s.lines.brake.raw || s.lines.drive.raw
      | .pressure => contactCause s.work.sense.pressurePolarity s.lines.pressure.raw
      | .aux => contactCause s.work.sense.auxPolarity s.lines.aux.raw
      | _ => false
    let still (x : AxisRec) : AxisRec :=
      { referenced := x.referenced, position := x.position, motion := if x.referenced then .rest else .unref
        target := if x.referenced then x.position else 0
        lastArrival :=
          if x.motion = .slewing ∨ x.motion = .settling ∨ x.motion = .jogging ∨ x.motion = .homing then some .stopped else x.lastArrival
        capture := x.capture, movedUp := x.movedUp }
    let closes := s.lines.nest.raw && !s.lines.nest.level
    let counter := if closes then 0 else s.mast.counter
    let mast : Mast :=
      { counter := counter, referenced := s.mast.referenced || closes
        state := if s.lines.nest.raw then .nested else if s.mast.referenced then .rest else .unref
        target := if s.mast.referenced || closes then 2 * counter else 0
        outcome :=
          if s.mast.state = .raising ∨ s.mast.state = .lowering ∨ s.mast.state = .clearWait ∨ s.mast.state = .settling
              ∨ s.mast.state = .nudging ∨ s.mast.state = .topping then
            some .stopped
          else s.mast.outcome }
    (s.takesNow →
      ∃ t, exec (.restart tag) s = .next t ∧ Replied t 0x02 tag .ok [] ∧ t = { s with link := t.link } ∧ t.link.restarting = true)
    ∧ ∀ f, s.link.sending = some f → f.rest = [] → f.restarts = true →
      (∃ t, exec .frameSent s = .next t ∧ t.pending = s.pending ∧ t.work = s.work ∧ t.sites = s.sites ∧ t.fix = s.fix
        ∧ t.fixNumber = s.fixNumber ∧ t.lock = s.lock ∧ t.store = s.store ∧ t.trips.settings = s.trips.settings
        ∧ t.solution = {} ∧ t.search = {} ∧ t.tracking = {} ∧ t.gate = {} ∧ t.seq = {} ∧ t.report = {} ∧ t.trackTimer = {}
        ∧ (∀ a, (t.axis a).referenced = (s.axis a).referenced ∧ (t.axis a).position = (s.axis a).position ∧ (t.axis a).slot = none)
        ∧ t.more = false ∧ (∀ v, t.violation = some v → v.kind = .pathBlocked)
        ∧ t.mast.counter = counter ∧ t.mast.referenced = mast.referenced
        ∧ t.lines = s.lines.reset ∧ t.sense = resetSense s.work.sense
        ∧ (∀ n, t.trips.source n
            = { (clearTrips s.trips.settings).source n with
                cause := cause n
                state := if cause n && ((clearTrips s.trips.settings).source n).config.enabled then .active else .clear })
        ∧ t.notices.masks = 0 ∧ t.notices.hush = false ∧ t.notices.lastReset = .restart
        ∧ t.link.queue = [] ∧ t.link.replies = [] ∧ t.link.waiting = none ∧ t.link.restarting = false ∧ t.link.receiver = {}
        ∧ ∃ g, t.link.sending = some g ∧ g.frame.kind = 0xE0 ∧ g.frame.tag = 0)
      ∧ ((∀ n, cause n = false) →
        exec .frameSent s
          = .next ({ s with
              solution := {}, violation := none, more := false
              pos := { pan := still s.pos.pan, tilt := still s.pos.tilt, pol := still s.pos.pol }
              mast := mast, sense := resetSense s.work.sense, lines := s.lines.reset, trips := clearTrips s.trips.settings
              search := {}, tracking := {}, gate := {}, seq := {}, link := {}, notices := { pending := 1, lastReset := .restart }
              report := {}, trackTimer := {} } : State).arbitrate)

/-! ## The settings store -/

/-- SAVE snapshots every working setting and starts a write of 800 ms; it is refused BUSY while one runs. The snapshot has the sites
without their learned offsets and the trip configurations as last written. A completed write makes the snapshot the image, with a CRC
that matches, and the store is IDLE again (R2, R135, R212, R214, R215). The timer and the flag of the CRC are the model's choices (log
entries 31, 13); a SAVE_COMPLETE while no write runs changes nothing (log entry 3). -/
def Obligations.SaveSnapshotsTheWorkingSettings : Prop :=
  ∀ (s : State) (tag : Byte),
    (s.takesNow → s.store.snapshot = none →
      Answered (.save tag) s 0x03 tag .ok []
        { s with store := { s.store with
            snapshot := some
              { work := s.work, sites := s.sites.map (fun r => { r with learned := none }), trips := s.trips.settings }
            saveTimer := some 800 } })
    ∧ (s.takesNow → s.store.snapshot.isSome = true → Answered (.save tag) s 0x03 tag .busy [] s)
    ∧ (∀ x, s.store.snapshot = some x →
      exec .saveComplete s
        = .next ({ s with store := { image := x, imageGood := true, snapshot := none, saveTimer := none, storeBad := false } }).arbitrate)
    ∧ (s.store.snapshot = none → exec .saveComplete s = .next s.arbitrate)

/-! ## Requests that read -/

/-- The requests that read change no state but the link's own. The nine that read one whole record carry that record; TRIP_READ answers in
segments: its first frame carries the segment byte, with segment 1 in the high four bits and the number of segments in the low four, and
the first 118 bytes of the contents (R29, R48, R100, R116, R137, R162, R174, R191, R197, R199). SITE_READ carries a record or the
directory, MAP_READ a run, AXIS_READ an axis; a field outside its range is refused RANGE, an absent site NO_SITE (R6, R44, R78). The layouts
that spec/10 does not set out are the model's (log entries 5, 9, 33). -/
def Obligations.ReadsChangeNothing : Prop :=
  ∀ (s : State) (tag n layer first count : Byte), s.takesNow →
    (Answered (.ident tag) s 0x01 tag .ok (identBytes s) s
      ∧ Answered (.solutionRead tag) s 0x13 tag .ok (solutionBytes s.solution) s
      ∧ Answered (.violationRead tag) s 0x1D tag .ok (violationBytes s.violation s.more) s
      ∧ Answered (.mastRead tag) s 0x33 tag .ok (mastBytes s) s
      ∧ Answered (.senseRead tag) s 0x38 tag .ok (senseBytes s) s
      ∧ Answered (.searchRead tag) s 0x46 tag .ok (searchReadBytes s) s
      ∧ Answered (.txRead tag) s 0x4D tag .ok (gateReadBytes s) s
      ∧ Answered (.seqRead tag) s 0x53 tag .ok (seqBytes s) s
      ∧ Answered (.tripRead tag) s 0x41 tag .ok
          (BitVec.ofNat 8 (16 + (pieces 15 (tripBytes s)).length) :: (tripBytes s).take 118) s)
    ∧ (n.toNat = 255 → Answered (.siteRead tag n) s 0x0A tag .ok (directoryBytes s.sites) s)
    ∧ (∀ r, s.site? n.toNat = some r → n.toNat ≤ 15 → Answered (.siteRead tag n) s 0x0A tag .ok (siteBytes r) s)
    ∧ (n.toNat ≤ 15 → s.site? n.toNat = none → Answered (.siteRead tag n) s 0x0A tag .noSite [] s)
    ∧ (16 ≤ n.toNat → n.toNat ≤ 254 → Answered (.siteRead tag n) s 0x0A tag .range [] s)
    ∧ (∀ l, layerOf layer = some l → first.toNat ≤ 71 → 1 ≤ count.toNat → count.toNat ≤ 36 →
        Answered (.mapRead tag layer first count) s 0x19 tag .ok (mapBytes s l first.toNat count.toNat) s)
    ∧ (2 < layer.toNat ∨ 71 < first.toNat ∨ count.toNat = 0 ∨ 36 < count.toNat →
        Answered (.mapRead tag layer first count) s 0x19 tag .range [] s)
    ∧ (∀ a, axisOf n = some a → Answered (.axisRead tag n) s 0x27 tag .ok (axisBytes s a) s)
    ∧ (2 < n.toNat → Answered (.axisRead tag n) s 0x27 tag .range [] s)

/-! ## Sites, fixes and the aiming solution -/

/-- A SITE_STORE whose fields lie in their ranges places the record under its number, without a learned offset, and leaves every other
record; one whose fields do not is refused RANGE and changes nothing. A SITE_ERASE removes the record of its number and no other; an
absent record is refused NO_SITE, a number above 15 RANGE (R1, R4, R5). -/
def Obligations.SitesAreStoredAndErased : Prop :=
  ∀ (s : State) (tag n : Byte) (lat lon alt : Quad) (q fl ce : Half) (name : List Byte), s.takesNow →
    let fits := n.toNat ≤ 15 ∧ name.length ≤ 12 ∧ (∀ c ∈ name, 32 ≤ c.toNat ∧ c.toNat ≤ 126)
      ∧ -800000000 ≤ lat.toInt ∧ lat.toInt ≤ 800000000 ∧ -1800000000 ≤ lon.toInt ∧ lon.toInt ≤ 1799999999
      ∧ -5000 ≤ alt.toInt ∧ alt.toInt ≤ 90000 ∧ q.toNat ≤ 17999 ∧ fl.toNat ≤ 4094 ∧ 1 ≤ ce.toNat ∧ ce.toNat ≤ 4095
      ∧ fl.toNat < ce.toNat
    (fits → ∃ l, Answered (.siteStore tag n lat lon alt q fl ce name) s 0x08 tag .ok [] { s with sites := l }
      ∧ l.find? (fun r => r.number == n.toNat)
        = some { number := n.toNat, name := name, lat := lat.toInt, lon := lon.toInt, alt := alt.toInt, pol := q.toNat
                 beaconFloor := fl.toNat, beaconCeiling := ce.toNat, learned := none }
      ∧ (∀ m, m ≠ n.toNat → l.find? (fun r => r.number == m) = s.site? m)
      ∧ (sitesOrdered s.sites → sitesOrdered l))
    ∧ (¬ fits → Answered (.siteStore tag n lat lon alt q fl ce name) s 0x08 tag .range [] s)
    ∧ (n.toNat ≤ 15 → (s.site? n.toNat).isSome = true →
      Answered (.siteErase tag n) s 0x09 tag .ok [] { s with sites := s.sites.filter (fun r => decide (r.number ≠ n.toNat)) })
    ∧ (n.toNat ≤ 15 → s.site? n.toNat = none → Answered (.siteErase tag n) s 0x09 tag .noSite [] s)
    ∧ (15 < n.toNat → Answered (.siteErase tag n) s 0x09 tag .range [] s)

/-- An accepted FIX takes the next fix number, replaces the whole fix record, sets the stale flag of a solution that is not INVALID, and is
answered with the new number; a value outside its range is refused RANGE and changes nothing. A heading whose flag is clear is not
checked, and 0 is held (R8, R9, R10). A flag byte that is neither 0 nor 1 is refused RANGE (log entry 10). -/
def Obligations.FixReplacesTheFixRecord : Prop :=
  ∀ (s : State) (tag flag : Byte) (lat lon alt : Quad) (h : Half), s.takesNow →
    let placed := -900000000 ≤ lat.toInt ∧ lat.toInt ≤ 900000000 ∧ -1800000000 ≤ lon.toInt ∧ lon.toInt ≤ 1799999999
      ∧ -5000 ≤ alt.toInt ∧ alt.toInt ≤ 90000
    let n := (s.fixNumber + 1) % 65536
    let taken (present : Bool) : State :=
      { s with
        fixNumber := n
        fix := some { lat := lat.toInt, lon := lon.toInt, alt := alt.toInt, heading := if present then h.toNat else 0
                      headingPresent := present, number := n }
        solution := if s.solution.status = .invalid then s.solution else { s.solution with stale := true } }
    (placed → flag = 1 → h.toNat ≤ 35999 →
      Answered (.fix tag lat lon alt flag h) s 0x10 tag .ok (halfBytes (BitVec.ofNat 16 n)) (taken true))
    ∧ (placed → flag = 0 → Answered (.fix tag lat lon alt flag h) s 0x10 tag .ok (halfBytes (BitVec.ofNat 16 n)) (taken false))
    ∧ (¬ placed ∨ 1 < flag.toNat ∨ (flag = 1 ∧ 35999 < h.toNat) → Answered (.fix tag lat lon alt flag h) s 0x10 tag .range [] s)

/-- SOLVE computes the solution at the counter's extension or at the named one, writes the record, and moves nothing: its reply carries the
record, with the status that the outcome gives. A computation that is refused for want of a fix or a heading, for want of the site record, or for
a latitude beyond 80° holds the site, the fix number used and the extension used, and nothing more. A site above 15 or a named
extension above 15,000 mm is refused RANGE and leaves the record (R13, R15, R26). -/
def Obligations.SolveWritesTheSolutionAlone : Prop :=
  ∀ (s : State) (tag n flag : Byte) (ext : Half), s.takesNow →
    let e := if flag = 1 then ext.toNat else s.extension
    let fields := n.toNat ≤ 15 ∧ (flag = 0 ∨ (flag = 1 ∧ ext.toNat ≤ 15000))
    let head : Solution := { site := n.toNat, fixNumber := (s.fix.map (fun f => f.number)).getD 0, extension := e }
    let ends (st : Status) (q : Solution) : Prop :=
      Answered (.solve tag n flag ext) s 0x11 tag st (solutionBytes q) { s with solution := q }
    (fields →
      let q := solve (s.solveInputs n.toNat e)
      let st : Status :=
        match q.status with
        | .noSite => .noSite
        | .geometry => .geometry
        | .valid => if q.hasPreferred = false then .blocked else if q.tiltClamped then .clamped else .ok
        | _ => .noFix
      ends st q)
    ∧ (fields → s.fix = none → ends .noFix { head with status := .noFix })
    ∧ (fields → ∀ f, s.fix = some f →
      (f.headingPresent = false → ends .noFix { head with status := .noFix })
      ∧ (f.headingPresent = true → s.site? n.toNat = none → ends .noSite { head with status := .noSite })
      ∧ (f.headingPresent = true → ∀ r, s.site? n.toNat = some r → 800000000 < f.lat.natAbs ∨ 800000000 < r.lat.natAbs →
        ends .geometry { head with status := .geometry, detail := some .latitude }))
    ∧ (15 < n.toNat ∨ (flag = 1 ∧ 15000 < ext.toNat) → Answered (.solve tag n flag ext) s 0x11 tag .range [] s)

/-- A valid solution follows the stages (R15 to R24): the north and east distances, the distance, the bearing, the elevation with its curvature
drop, the relative azimuth, the van-frame elevation and the polarisation are the figures of stages 1 to 6, each rounded once to the nearest,
halves away from zero (R14); a learned offset is applied where its point lies within 100 m, and shifts pan and tilt alone; the candidates
are all the positions of the travel that reach the azimuth, judged by the map, and the preferred one, the shortest of the admissible, then
the nearer to pan 0, then the negative one, is the pan target; where none is admissible, it is the first of all in that order, and its first
blocked sector is named (R12, R36); the pol target is the nearer one within its travel, and of two equally near the non-negative one. A
computation without a fix or a heading is NO_FIX, one without the site record NO_SITE, one beyond 80° of latitude GEOMETRY with LATITUDE,
and one whose distance is below 100 m or above 150,000 m GEOMETRY with TOO_NEAR or TOO_FAR and the distances; the later fields hold 0. The
longitudes of the fix and of the site lie in their ranges (R1, R9). The trigonometric factors and angles are those of log entry 6. -/
def Obligations.SolutionsFollowTheStages : Prop :=
  ∀ i : SolveInputs, (∀ f, i.fix = some f → -1800000000 ≤ f.lon ∧ f.lon ≤ 1799999999) →
    (∀ r, i.site = some r → -1800000000 ≤ r.lon ∧ r.lon ≤ 1799999999) →
    let q := solve i
    let rounds (num : Int) (den : Nat) (x : Int) : Prop :=
      (2 * (den * x - num)).natAbs ≤ den ∧ ((2 * (den * x - num)).natAbs = den → num.natAbs < den * x.natAbs)
    let apart (lat0 lon0 lat1 lon1 n e : Int) : Prop :=
      let d := lon1 - lon0
      let short := if 1800000000 ≤ d then d - 3600000000 else if d < -1800000000 then d + 3600000000 else d
      rounds ((lat1 - lat0) * 111195) 10000000 n
        ∧ rounds (short * 111195 * cosFactor ((lat1 + lat0).tdiv 2) 10000000) (10000000 * 65536) e
    let root (n e : Int) (d : Nat) : Prop :=
      (0 < d → (2 * (d : Int) - 1) ^ 2 < 4 * (n ^ 2 + e ^ 2)) ∧ 4 * (n ^ 2 + e ^ 2) < (2 * (d : Int) + 1) ^ 2
    let before (c d : Candidate) : Prop :=
      c.pathLength < d.pathLength ∨ (c.pathLength = d.pathLength
        ∧ (c.position.natAbs < d.position.natAbs ∨ (c.position.natAbs = d.position.natAbs ∧ c.position ≤ d.position)))
    let head (k : Nat) : Solution := { site := i.siteNumber, fixNumber := k, extension := i.extension }
    (q.status = .valid →
      (∃ f r, i.fix = some f ∧ i.site = some r ∧ f.headingPresent = true ∧ f.lat.natAbs ≤ 800000000 ∧ r.lat.natAbs ≤ 800000000
        ∧ q.site = i.siteNumber ∧ q.fixNumber = f.number ∧ q.extension = i.extension ∧ q.stale = false
        ∧ apart f.lat f.lon r.lat r.lon q.north q.east
        ∧ 100 ≤ q.distance ∧ q.distance ≤ 150000 ∧ root q.north q.east q.distance
        ∧ q.bearing = bearingOf q.east q.north ∧ q.bearing ≤ 35999
        ∧ (∃ drop, rounds ((q.distance : Int) ^ 2) 17000 drop
          ∧ q.elevation = elevationOf (r.alt * 100 - (f.alt * 100 + i.stowedPivot + i.extension) - drop) (1000 * q.distance))
        ∧ q.azimuth ≤ 35999 ∧ ((q.azimuth : Int) - (q.bearing - f.heading)) % 36000 = 0
        ∧ (let cs := cosFactor q.azimuth 100
          let sn := sinFactor q.azimuth 100
          rounds (65536 * q.elevation - i.pitch * cs + i.roll * sn) 65536 q.vanElevation
            ∧ q.polarisation ≤ 17999
            ∧ ∃ t, rounds (65536 * (r.pol : Int) - i.roll * cs - i.pitch * sn) 65536 t ∧ ((q.polarisation : Int) - t) % 18000 = 0)
        ∧ (q.offsetsApplied = true ↔
          ∃ g, r.learned = some g ∧ ∃ n e, apart f.lat f.lon g.lat g.lon n e ∧ n.natAbs ≤ 100 ∧ e.natAbs ≤ 100)
        ∧ (let shift : Int × Int := if q.offsetsApplied then (r.learned.map (fun g => (g.pan, g.tilt))).getD (0, 0) else (0, 0)
          q.tiltTarget = clampInt (-500) 4500 (q.vanElevation + shift.2)
            ∧ (q.tiltClamped = true ↔ q.vanElevation + shift.2 < -500 ∨ 4500 < q.vanElevation + shift.2)
            ∧ ∀ p : Int, (∃ c ∈ q.candidates, c.position = p)
                ↔ (-20000 ≤ p ∧ p ≤ 20000 ∧ (i.map.stowAzimuth + p - (q.azimuth + shift.1)) % 36000 = 0)))
      ∧ q.tiltTarget ≥ -500 ∧ q.tiltTarget ≤ 4500 ∧ q.polTarget ≥ -9500 ∧ q.polTarget ≤ 9500
      ∧ (∀ p : Int, p = q.polarisation ∨ p = q.polarisation - 18000 → -9500 ≤ p → p ≤ 9500 → p ≠ q.polTarget →
        (q.polTarget - i.pol).natAbs < (p - i.pol).natAbs
          ∨ ((q.polTarget - i.pol).natAbs = (p - i.pol).natAbs ∧ q.polTarget = q.polarisation))
      ∧ (q.polTarget = q.polarisation ∨ q.polTarget = q.polarisation - 18000)
      ∧ q.panTarget ≥ -20000 ∧ q.panTarget ≤ 20000 ∧ (q.candidates.length = 1 ∨ q.candidates.length = 2)
      ∧ q.candidates.Pairwise (fun c d => c.position < d.position)
      ∧ (∀ c ∈ q.candidates, c.pathLength = (c.position - i.pan).natAbs ∧ c.firstBlocked = i.map.firstBlocked i.pan c.position
        ∧ c.admissible = c.firstBlocked.isNone
        ∧ (c.preferred = true → c.admissible = true ∧ q.panTarget = c.position
          ∧ ∀ d ∈ q.candidates, d.admissible = true → before c d))
      ∧ ((∃ c ∈ q.candidates, c.admissible = true) → q.hasPreferred = true)
      ∧ ((∀ c ∈ q.candidates, c.admissible = false) →
        ∃ c ∈ q.candidates, q.panTarget = c.position ∧ c.firstBlocked = some q.blockedSector ∧ ∀ d ∈ q.candidates, before c d))
    ∧ (i.fix = none → q = { head 0 with status := .noFix })
    ∧ ∀ f, i.fix = some f →
      (f.headingPresent = false → q = { head f.number with status := .noFix })
      ∧ (f.headingPresent = true → i.site = none → q = { head f.number with status := .noSite })
      ∧ (f.headingPresent = true → ∀ r, i.site = some r →
        (800000000 < f.lat.natAbs ∨ 800000000 < r.lat.natAbs → q = { head f.number with status := .geometry, detail := some .latitude })
        ∧ (f.lat.natAbs ≤ 800000000 → r.lat.natAbs ≤ 800000000 → ∀ n e d, apart f.lat f.lon r.lat r.lon n e → root n e d →
          (d < 100 →
            q = { head f.number with status := .geometry, detail := some .tooNear, north := n, east := e, distance := d })
          ∧ (150000 < d →
            q = { head f.number with status := .geometry, detail := some .tooFar, north := n, east := e, distance := d })
          ∧ (100 ≤ d → d ≤ 150000 → q.status = .valid)))

/-- An AIM whose checks pass writes the solution, moves all three axes to its targets at once, empties the pending slots and hands the site
to the Peak Search Engine, and nothing else (R27, R28, R56). An AIM that fails a check touches no axis. Checks 1 to 3 leave the solution;
after them the solution is written; a low mast and an unreferenced axis refuse it, and a refusal for the map records PATH_BLOCKED with the
first blocked sector on the way to the pan target, or sets the more flag of a full record (R27, R35, R40). -/
def Obligations.AimMovesAllThreeAxesOrNone : Prop :=
  ∀ (s : State) (tag n : Byte), s.takesNow →
    (s.Calm → n.toNat ≤ 15 → s.pos.owner = .console →
      (∀ a, (s.axis a).referenced = true) → s.mastReady = true →
      let q := solve (s.solveInputs n.toNat s.extension)
      q.status = .valid → q.hasPreferred = true →
      let go (a : Axis) (t : Int) : AxisRec := moveTo a (s.axisSettings a).slewClass t .console { s.axis a with slot := none }
      Answered (.aim tag n) s 0x12 tag (if q.tiltClamped then .clamped else .ok) (solutionBytes q)
        { s with
          solution := q
          tracking := { s.tracking with site := some n.toNat }
          pos := { s.pos with pan := go .pan q.panTarget, tilt := go .tilt q.tiltTarget, pol := go .pol q.polTarget } })
    ∧ (15 < n.toNat → Answered (.aim tag n) s 0x12 tag .range [] s)
    ∧ (n.toNat ≤ 15 → s.positionerInForce = true → Answered (.aim tag n) s 0x12 tag .tripped [] s)
    ∧ (n.toNat ≤ 15 → s.positionerInForce = false → s.pos.owner ≠ .console → Answered (.aim tag n) s 0x12 tag .busy [] s)
    ∧ (s.Calm → n.toNat ≤ 15 → s.pos.owner = .console →
        let q := solve (s.solveInputs n.toNat s.extension)
        let t : State := { s with solution := q }
        let v : Violation :=
          { kind := .pathBlocked, sector := q.blockedSector, pan := s.pos.pan.position, fixNumber := s.fixNumber }
        (q.status = .noFix → Answered (.aim tag n) s 0x12 tag .noFix (solutionBytes q) t)
        ∧ (q.status = .noSite → Answered (.aim tag n) s 0x12 tag .noSite (solutionBytes q) t)
        ∧ (q.status = .geometry → Answered (.aim tag n) s 0x12 tag .geometry (solutionBytes q) t)
        ∧ (q.status = .valid → s.pos.pan.referenced = false → Answered (.aim tag n) s 0x12 tag .unreferenced (solutionBytes q) t)
        ∧ (q.status = .valid → s.pos.pan.referenced = true → s.mastReady = false →
            Answered (.aim tag n) s 0x12 tag .lowMast (solutionBytes q) t)
        ∧ (q.status = .valid → s.pos.pan.referenced = true → s.mastReady = true → q.hasPreferred = false → s.violation = none →
            Answered (.aim tag n) s 0x12 tag .blocked (solutionBytes q)
              (({ t with violation := some v } : State).raise .violation))
        ∧ (q.status = .valid → s.pos.pan.referenced = true → s.mastReady = true → q.hasPreferred = false → s.violation.isSome = true →
            Answered (.aim tag n) s 0x12 tag .blocked (solutionBytes q) { t with more := true })
        ∧ (q.status = .valid → s.pos.pan.referenced = true → s.mastReady = true → q.hasPreferred = true →
            s.pos.tilt.referenced = false ∨ s.pos.pol.referenced = false →
            Answered (.aim tag n) s 0x12 tag .unreferenced (solutionBytes q) t))

/-! ## The sector map -/

/-- The effective record has the more restrictive attribute, and for SHADOW the height of the layer that gives it, the larger of two. A pan
move is admissible exactly when it covers no position at which it passes from one sector into another that is BLOCKED, and its first
blocked sector is the BLOCKED one that it enters the earliest: the way up to the position before enters none. The end
point of a pan jog is the last position before the first BLOCKED sector toward the travel end, or the travel end (R31, R34, R37). -/
def Obligations.MovesAreJudgedByTheEffectiveMap : Prop :=
  (∀ (b v : SectorRec),
    attrRank b.attr ≤ attrRank (effectiveOf b v).attr ∧ attrRank v.attr ≤ attrRank (effectiveOf b v).attr
      ∧ ((effectiveOf b v).attr = b.attr ∨ (effectiveOf b v).attr = v.attr)
      ∧ (b.attr = .shadow → v.attr = .shadow → (effectiveOf b v).height = max b.height v.height)
      ∧ (b.attr = .shadow → v.attr = .openSky → (effectiveOf b v).height = b.height)
      ∧ (b.attr = .openSky → v.attr = .shadow → (effectiveOf b v).height = v.height))
  ∧ (∀ (m : MapSettings) (p q : Int),
    (m.firstBlocked p q = none ↔
      ∀ x : Int,
        (p < x ∧ x ≤ q → (m.effective (m.sectorAt x)).attr = .blocked → m.sectorAt x = m.sectorAt (x - 1))
        ∧ (q ≤ x ∧ x < p → (m.effective (m.sectorAt x)).attr = .blocked → m.sectorAt x = m.sectorAt (x + 1)))
    ∧ ∀ k, m.firstBlocked p q = some k →
      ∃ x : Int, m.sectorAt x = k ∧ (m.effective k).attr = .blocked
        ∧ ((p < x ∧ x ≤ q ∧ m.sectorAt (x - 1) ≠ k ∧ m.firstBlocked p (x - 1) = none)
          ∨ (q ≤ x ∧ x < p ∧ m.sectorAt (x + 1) ≠ k ∧ m.firstBlocked p (x + 1) = none)))
  ∧ ∀ (m : MapSettings) (p : Int), -20000 ≤ p → p ≤ 20000 →
    (m.firstBlocked p 20000 = none → m.jogEnd p true = (20000, none))
    ∧ (∀ k, m.firstBlocked p 20000 = some k →
      ∃ x : Int, m.jogEnd p true = (x, some k) ∧ p ≤ x ∧ x < 20000 ∧ m.firstBlocked p x = none ∧ m.firstBlocked p (x + 1) = some k)
    ∧ (m.firstBlocked p (-20000) = none → m.jogEnd p false = (-20000, none))
    ∧ ∀ k, m.firstBlocked p (-20000) = some k →
      ∃ x : Int, m.jogEnd p false = (x, some k) ∧ x ≤ p ∧ -20000 < x ∧ m.firstBlocked p x = none ∧ m.firstBlocked p (x - 1) = some k

/-- An accepted MAP_WRITE, with the pan not on its way, writes its record into every sector of its run in its layer, and nothing else; the
body layer only while the lock is clear, and BLOCKED only outside the stow sector. One that fails a check changes nothing: an unknown
layer or attribute, a run or a SHADOW height outside its range, and a BLOCKED stow sector are refused RANGE, the body layer under the lock
LOCKED (R39, R42, R43). A survey write that bars the remaining path of a slewing pan stops it where it stands and records MAP_UNDER_MOVE (R38, R58). -/
def Obligations.MapWriteWritesItsRunAndStopsABarredMove : Prop :=
  (∀ (s : State) (tag layer first count attr : Byte) (h : Half), s.takesNow →
    let run (r : SectorRec) (l : List SectorRec) := l.mapIdx (fun k x => if (k + 72 - first.toNat) % 72 < count.toNat then r else x)
    let field := 1 < layer.toNat ∨ 71 < first.toNat ∨ count.toNat = 0 ∨ 72 < count.toNat ∨ 3 < attr.toNat
      ∨ (attr = 1 ∧ (h.toNat = 0 ∨ 20000 < h.toNat))
    (¬ field → s.Calm → s.pos.pan.motion = .rest ∨ s.pos.pan.motion = .unref ∨ s.pos.pan.motion = .held → s.pos.stowUnrun = false →
      (attr = 3 → (s.work.map.stowSector + 72 - first.toNat) % 72 ≥ count.toNat) →
      let r : SectorRec :=
        { attr := if attr = 0 then .openSky else if attr = 1 then .shadow else if attr = 2 then .noTx else .blocked
          height := if attr = 1 then h.toNat else 0 }
      (layer = 1 →
        Answered (.mapWrite tag layer first count attr h) s 0x18 tag .ok [] (s.withMap { s.work.map with survey := run r s.work.map.survey }))
      ∧ (layer = 0 → s.lock = false →
        Answered (.mapWrite tag layer first count attr h) s 0x18 tag .ok [] (s.withMap { s.work.map with body := run r s.work.map.body })))
    ∧ (field → Answered (.mapWrite tag layer first count attr h) s 0x18 tag .range [] s)
    ∧ (¬ field → layer = 0 → s.lock = true → Answered (.mapWrite tag layer first count attr h) s 0x18 tag .locked [] s)
    ∧ (¬ field → (layer = 1 ∨ s.lock = false) → attr = 3 → (s.work.map.stowSector + 72 - first.toNat) % 72 < count.toNat →
        Answered (.mapWrite tag layer first count attr h) s 0x18 tag .range [] s))
  ∧ ∀ (s : State) (tag first count : Byte) (k : Nat), s.takesNow → s.Calm → s.pos.pan.referenced = true →
    s.pos.pan.motion = .slewing → s.pos.stowUnrun = false → s.pos.stowAwaits.pan = false → s.violation = none →
    first.toNat ≤ 71 → 1 ≤ count.toNat → count.toNat ≤ 72 →
    (s.work.map.stowSector + 72 - first.toNat) % 72 ≥ count.toNat →
    let m := { s.work.map with survey := writeRun first.toNat count.toNat { attr := .blocked } s.work.map.survey }
    let v : Violation := { kind := .mapUnderMove, sector := k, pan := s.pos.pan.position, fixNumber := s.fixNumber }
    m.firstBlocked s.pos.pan.position s.pos.pan.target = some k →
    Answered (.mapWrite tag 1 first count 3 0) s 0x18 tag .ok []
      ((({ s.withMap m with violation := some v } : State).setAxis .pan
        { s.pos.pan with
          motion := .settling, target := s.pos.pan.position, ending := .stopped, jog := none, jogTimer := none, homing := none
          settleTimer := some 200, stallTimer := none }).raise .violation)

/-- CEILING_SET replaces the ceiling and takes the mast's target down to the new raise limit; a standing mast stays where it is. That the target
of a standing mast comes down also to a limit that rises but stays below it is the model's choice (log entry 36). A raise whose
extension has reached the new limit stops and settles there; one below it goes on, to a stop count formed anew where its target came down,
or settles where that count is reached. A lowering goes on toward its target, brought down where the limit lies below it, with the stop count
formed from it and the lead that the lowering read (R88). A mast that settles after a move keeps settling toward the lowered target, and is not lowered for it
(log entry 37). A value from 1 to 999 or above 20,000 is refused RANGE (R33, R45, R86, R87). -/
def Obligations.CeilingSetBringsTheTargetDown : Prop :=
  ∀ (s : State) (tag : Byte) (h : Half), s.takesNow →
    (s.Calm → (h.toNat = 0 ∨ (1000 ≤ h.toNat ∧ h.toNat ≤ 20000)) →
      let u := s.withMap { s.work.map with ceiling := h.toNat }
      let limit := u.raiseLimit
      let stop := (limit - s.mast.leadInUse) / 2
      let done (m : Mast) : Prop := Answered (.ceilingSet tag h) s 0x1A tag .ok [] { u with mast := m }
      let settle (m : Mast) (k : SettleKind) : Mast :=
        { m with
          state := .settling, compressor := false, vent := false, settleKind := k, settleTimer := some 1000, stallTimer := none }
      ((s.mast.state = .nested ∨ (s.mast.state = .rest ∧ s.mast.target ≤ s.extension + s.work.mast.sagAllowance)) →
        done { s.mast with target := if limit = s.raiseLimit then s.mast.target else min s.mast.target limit })
      ∧ (s.mast.state = .raising → limit ≠ s.raiseLimit →
        (limit ≤ s.extension → done (settle { s.mast with target := min s.mast.target limit } (.afterLimit limit)))
        ∧ (s.extension < limit → s.mast.target ≤ limit → done s.mast)
        ∧ (s.extension < limit → limit < s.mast.target → s.mast.counter < stop →
          done { s.mast with target := limit, stopCount := stop })
        ∧ (s.extension < limit → limit < s.mast.target → stop ≤ s.mast.counter →
          done (settle { s.mast with target := limit, stopCount := stop } .afterMove)))
      ∧ (s.mast.state = .lowering → limit ≠ s.raiseLimit →
        (s.mast.target ≤ limit → done s.mast)
        ∧ (limit < s.mast.target → 0 < limit → (limit + s.mast.leadInUse) / 2 < s.mast.counter →
            s.windowClosed = true
              ∨ (s.mast.referenced = true
                ∧ (s.work.mast.clearance ≤ limit ∨ (s.work.mast.clearance + s.mast.leadInUse + 1) / 2 < s.mast.counter)) →
          done { s.mast with target := limit, stopCount := (limit + s.mast.leadInUse) / 2 }))
      ∧ (s.mast.state = .settling → s.mast.settleKind = .afterMove → limit ≠ s.raiseLimit → limit < s.mast.target →
        done { s.mast with target := limit, settleKind := .afterLowered }))
    ∧ ((1 ≤ h.toNat ∧ h.toNat ≤ 999) ∨ 20000 < h.toNat → Answered (.ceilingSet tag h) s 0x1A tag .range [] s)

/-- STOW_AZIMUTH replaces the stow azimuth, with the pan not on its way; it is refused RANGE above 35999 or where its sector is BLOCKED in
a layer, and LOCKED under the lock. BODY_LOCK sets the lock; VIOLATION_ACK answers with the violation record and the more flag as they
stood and empties them, and leaves a pending notice (R39, R46, R47, R49). The reply's bytes are laid out as log entry 9 says. -/
def Obligations.StowAzimuthLockAndAcknowledgement : Prop :=
  ∀ (s : State) (tag : Byte) (z : Half), s.takesNow →
    let barred := (s.work.map.bodyRec (z.toNat / 500)).attr = .blocked ∨ (s.work.map.surveyRec (z.toNat / 500)).attr = .blocked
    (s.Calm → s.pos.pan.motion = .rest ∨ s.pos.pan.motion = .unref → s.pos.stowUnrun = false → z.toNat ≤ 35999 → s.lock = false →
      ¬ barred → Answered (.stowAzimuth tag z) s 0x1B tag .ok [] (s.withMap { s.work.map with stowAzimuth := z.toNat }))
    ∧ (35999 < z.toNat → Answered (.stowAzimuth tag z) s 0x1B tag .range [] s)
    ∧ (z.toNat ≤ 35999 → s.lock = true → Answered (.stowAzimuth tag z) s 0x1B tag .locked [] s)
    ∧ (z.toNat ≤ 35999 → s.lock = false → barred → Answered (.stowAzimuth tag z) s 0x1B tag .range [] s)
    ∧ Answered (.bodyLock tag) s 0x1C tag .ok [] { s with lock := true }
    ∧ Answered (.violationAck tag) s 0x1E tag .ok (violationBytes s.violation s.more) { s with violation := none, more := false }

/-! ## The positioner axes -/

/-- AXIS_TARGET with the console as owner and no positioner trip in force (R55, R56, R57, R59, R60, R61). The tilt and the pol are clamped to
their aiming travel, a pan outside its travel and an unknown axis are refused RANGE. At IMMEDIATE the axis moves at once, or the request is
refused UNREFERENCED, LOW_MAST or BLOCKED; at another moment the position fills the slot, and an AT_REST axis in REST moves at once, or, where
the transfer is refused, empties its slot, reads REFUSED and raises ARRIVAL. A violation found while the record is full sets the more flag
and raises no notice (R40). -/
def Obligations.AxisTargetActsByTheUpdateMoment : Prop :=
  ∀ (s : State) (tag b : Byte) (p : Half), s.takesNow →
    (2 < b.toNat → Answered (.axisTarget tag b p) s 0x20 tag .range [] s)
    ∧ (s.positionerInForce = false → s.pos.owner = .console → ∀ a, axisOf b = some a →
    let x := s.axis a
    let t : Int := match a with | .pan => p.toInt | .tilt => clampInt (-500) 4500 p.toInt | .pol => clampInt (-9500) 9500 p.toInt
    let st : Status := if t = p.toInt then .ok else .clamped
    let moment := (s.axisSettings a).moment
    let clear := a = .pan → s.work.map.firstBlocked x.position t = none
    let near := (x.position - t).natAbs ≤ (match a with | .pol => 50 | _ => 5)
    let go : AxisRec :=
      { x with
        motion := if near then .settling else .slewing
        target := t, slot := if moment = .immediate then x.slot else none, origin := .console, ending := .arrived
        jog := none, jogTimer := none, homing := none, classInUse := (s.axisSettings a).slewClass
        settleTimer := if near then some 200 else none
        stallTimer := if near then none else some 2000
        driveUp := if near then x.driveUp else decide (x.position < t)
        progress := if near then x.progress else 0 }
    let v (k : Nat) : Violation := { kind := .pathBlocked, sector := k, pan := x.position, fixNumber := s.fixNumber }
    let refused (u : State) : State := (u.setAxis a { x with slot := none, lastArrival := some .refused }).raise .arrival
    (a = .pan → (p.toInt < -20000 ∨ 20000 < p.toInt) → Answered (.axisTarget tag b p) s 0x20 tag .range [] s)
    ∧ ((a = .pan → -20000 ≤ p.toInt ∧ p.toInt ≤ 20000) →
      (s.Calm → moment = .immediate → x.referenced = true → s.mastReady = true → clear →
        Answered (.axisTarget tag b p) s 0x20 tag st [] (s.setAxis a go))
      ∧ (s.Calm → moment = .atRest → x.motion = .rest → x.referenced = true → s.mastReady = true → clear →
        Answered (.axisTarget tag b p) s 0x20 tag st [] (s.setAxis a go))
      ∧ (moment ≠ .immediate → ¬ (moment = .atRest ∧ x.motion = .rest) →
        Answered (.axisTarget tag b p) s 0x20 tag st [] (s.setAxis a { x with slot := some t }))
      ∧ (moment = .immediate → x.referenced = false → Answered (.axisTarget tag b p) s 0x20 tag .unreferenced [] s)
      ∧ (moment = .immediate → x.referenced = true → s.mastReady = false →
        Answered (.axisTarget tag b p) s 0x20 tag .lowMast [] s)
      ∧ (moment = .immediate → x.referenced = true → s.mastReady = true → a = .pan → s.violation = none →
          ∀ k, s.work.map.firstBlocked x.position t = some k →
        Answered (.axisTarget tag b p) s 0x20 tag .blocked [] (({ s with violation := some (v k) } : State).raise .violation))
      ∧ (moment = .immediate → x.referenced = true → s.mastReady = true → ¬ clear → s.violation.isSome = true →
        Answered (.axisTarget tag b p) s 0x20 tag .blocked [] { s with more := true })
      ∧ (s.Calm → moment = .atRest → x.motion = .rest →
        (x.referenced = false ∨ s.mastReady = false → Answered (.axisTarget tag b p) s 0x20 tag st [] (refused s))
        ∧ (x.referenced = true → s.mastReady = true → a = .pan → s.violation = none → ∀ k, s.work.map.firstBlocked x.position t = some k →
          Answered (.axisTarget tag b p) s 0x20 tag st [] (refused (({ s with violation := some (v k) } : State).raise .violation)))
        ∧ (x.referenced = true → s.mastReady = true → ¬ clear → s.violation.isSome = true →
          Answered (.axisTarget tag b p) s 0x20 tag st [] (refused { s with more := true })))))

/-- Every request that moves the positioner from the console, AIM among them, is refused TRIPPED while the combined positioner action is HOLD
or STOW, and BUSY while another than the console owns the positioner; nothing changes (R27, R55, R61). That AXIS_TARGET is refused so
whatever its position is the order of log entry 30. -/
def Obligations.PositionerRequestsAreRefusedTrippedOrBusy : Prop :=
  ∀ (s : State) (tag b m d v : Byte) (p : Half), s.takesNow → s.positionerInForce = true ∨ s.pos.owner ≠ .console →
    let st : Status := if s.positionerInForce then .tripped else .busy
    (b.toNat ≤ 15 → Answered (.aim tag b) s 0x12 tag st [] s)
      ∧ (b.toNat ≤ 2 → Answered (.axisTarget tag b p) s 0x20 tag st [] s)
      ∧ (b.toNat ≤ 2 → m.toNat ≤ 3 → Answered (.axisMoment tag b m) s 0x21 tag st [] s)
      ∧ Answered (.sync tag) s 0x22 tag st [] s
      ∧ (b.toNat ≤ 3 → Answered (.axisStop tag b) s 0x23 tag st [] s)
      ∧ (b.toNat ≤ 2 → d.toNat ≤ 1 → v.toNat ≤ 1 → Answered (.jog tag b d v) s 0x24 tag st [] s)
      ∧ (b.toNat ≤ 2 → Answered (.home tag b) s 0x25 tag st [] s)
      ∧ Answered (.stow tag) s 0x26 tag st [] s

/-- AXIS_MOMENT replaces the update moment; a full slot whose new moment is IMMEDIATE, or AT_REST in REST, is transferred at once, and one
that would be refused is emptied, reads REFUSED and raises ARRIVAL; an unknown axis or moment is refused RANGE. SYNC transfers the slots
of all axes at ON_SYNC together, or, where one would be refused, none; the reply is then the first refusal, in the order pan, tilt, pol
(R40, R56, R60, R62, R63). -/
def Obligations.MomentsAndSyncTransferTheSlots : Prop :=
  ∀ (s : State) (tag b c : Byte), s.takesNow →
    (2 < b.toNat ∨ 3 < c.toNat → Answered (.axisMoment tag b c) s 0x21 tag .range [] s)
    ∧ (s.Calm → s.pos.owner = .console →
    let ready (a : Axis) (t : Int) : Bool :=
      (s.axis a).referenced && s.mastReady && (decide (a ≠ .pan) || (s.work.map.firstBlocked (s.axis a).position t).isNone)
    let go (a : Axis) (t : Int) : AxisRec := moveTo a (s.axisSettings a).slewClass t .console { s.axis a with slot := none }
    let v (k : Nat) : Violation := { kind := .pathBlocked, sector := k, pan := s.pos.pan.position, fixNumber := s.fixNumber }
    let refused (a : Axis) (u : State) : State := (u.setAxis a { s.axis a with slot := none, lastArrival := some .refused }).raise .arrival
    let passes (a : Axis) : Prop := (s.axisSettings a).moment = .onSync → ∀ t, (s.axis a).slot = some t → ready a t = true
    (∀ a, axisOf b = some a → ∀ m, momentOf c = some m →
      let u := s.setAxisSettings a { s.axisSettings a with moment := m }
      ((s.axis a).slot = none ∨ m = .onSync ∨ m = .held ∨ (m = .atRest ∧ (s.axis a).motion ≠ .rest) →
        Answered (.axisMoment tag b c) s 0x21 tag .ok [] u)
      ∧ (∀ t, (s.axis a).slot = some t → (m = .immediate ∨ (m = .atRest ∧ (s.axis a).motion = .rest)) → ready a t = true →
        Answered (.axisMoment tag b c) s 0x21 tag .ok [] (u.setAxis a (go a t)))
      ∧ (∀ t, (s.axis a).slot = some t → (m = .immediate ∨ (m = .atRest ∧ (s.axis a).motion = .rest)) →
        ((s.axis a).referenced = false ∨ s.mastReady = false →
          Answered (.axisMoment tag b c) s 0x21 tag .ok [] (refused a u))
        ∧ ((s.axis a).referenced = true → s.mastReady = true → a = .pan → ∀ k, s.work.map.firstBlocked s.pos.pan.position t = some k →
          (s.violation = none →
            Answered (.axisMoment tag b c) s 0x21 tag .ok [] (refused a (({ u with violation := some (v k) } : State).raise .violation)))
          ∧ (s.violation.isSome = true → Answered (.axisMoment tag b c) s 0x21 tag .ok [] (refused a { u with more := true })))))
    ∧ (let after (a : Axis) : AxisRec :=
        match (s.axis a).slot with
        | some t => if (s.axisSettings a).moment = .onSync then go a t else s.axis a
        | none => s.axis a
      (∀ a : Axis, passes a) →
        Answered (.sync tag) s 0x22 tag .ok []
          { s with pos := { s.pos with pan := after .pan, tilt := after .tilt, pol := after .pol } })
    ∧ (∀ a t, (s.axis a).slot = some t → (s.axisSettings a).moment = .onSync →
        (a = .tilt ∨ a = .pol → passes .pan) → (a = .pol → passes .tilt) →
        ((s.axis a).referenced = false → Answered (.sync tag) s 0x22 tag .unreferenced [] s)
        ∧ ((s.axis a).referenced = true → s.mastReady = false → Answered (.sync tag) s 0x22 tag .lowMast [] s)
        ∧ ((s.axis a).referenced = true → s.mastReady = true → a = .pan → ∀ k, s.work.map.firstBlocked s.pos.pan.position t = some k →
          (s.violation = none →
            Answered (.sync tag) s 0x22 tag .blocked [] (({ s with violation := some (v k) } : State).raise .violation))
          ∧ (s.violation.isSome = true → Answered (.sync tag) s 0x22 tag .blocked [] { s with more := true }))))

/-- AXIS_STOP empties the slot of its axis, or of all three, and a moving axis comes to a stand where it is and settles toward STOPPED; an
axis in REST, UNREF or HELD keeps all but its slot. The dead-man of a jog stops it in the same way (R58, R73, R77). An unreferenced axis
takes the count it stands at as its target (log entry 35). -/
def Obligations.StopsBringAxesToAStand : Prop :=
  ∀ (s : State) (tag b : Byte) (d : Axis),
    let stood (x : AxisRec) : AxisRec :=
      if x.motion = .slewing ∨ x.motion = .settling ∨ x.motion = .jogging ∨ x.motion = .homing then
        { x with
          motion := .settling, target := x.position, ending := .stopped, jog := none, jogTimer := none, homing := none
          settleTimer := some 200, stallTimer := none }
      else x
    (s.takesNow → s.Calm → s.pos.owner = .console →
      (∀ a, axisOf b = some a → Answered (.axisStop tag b) s 0x23 tag .ok [] (s.setAxis a { stood (s.axis a) with slot := none }))
      ∧ (b = 3 → Answered (.axisStop tag b) s 0x23 tag .ok []
          { s with pos := { s.pos with
              pan := { stood s.pos.pan with slot := none }, tilt := { stood s.pos.tilt with slot := none }
              pol := { stood s.pos.pol with slot := none } } })
      ∧ (3 < b.toNat → Answered (.axisStop tag b) s 0x23 tag .range [] s))
    ∧ (s.Calm → (s.axis d).motion = .jogging →
        exec (.jogDeadmanExpiry d) s = .next (s.setAxis d (stood (s.axis d))).arbitrate)

/-- JOG with the console as owner (R37, R72): an unreferenced axis jogs without an end point, a referenced one toward the end point that the
map or the travel gives; it is refused LOW_MAST, STATE while the axis moves otherwise, BLOCKED where a BLOCKED sector makes the present
position the pan's end point, RANGE at the travel end, and beyond it by the model's choice (log entry 41), and RANGE for an unknown axis,
direction or speed. A jog that goes on in its direction keeps its stall mark, and another sets it (R64). -/
def Obligations.JogRunsTowardItsEndPoint : Prop :=
  ∀ (s : State) (tag b d v : Byte), s.takesNow →
    (2 < b.toNat ∨ 1 < d.toNat ∨ 1 < v.toNat → Answered (.jog tag b d v) s 0x24 tag .range [] s)
    ∧ (s.Calm → s.pos.owner = .console → d.toNat ≤ 1 → v.toNat ≤ 1 → ∀ a, axisOf b = some a →
    let x := s.axis a
    let up := decide (d = 0)
    let on := x.motion = .jogging ∧ x.driveUp = up
    let jogging (e : Option Int) : AxisRec :=
      { x with
        motion := .jogging, origin := .console, ending := .arrived, homing := none, settleTimer := none
        jog := some { positive := up, fast := decide (v = 1), endPoint := e }, jogTimer := some 500
        classInUse := (s.axisSettings a).slewClass, driveUp := up, progress := if on then x.progress else 0
        stallTimer := if on then x.stallTimer else some 2000 }
    let stands := x.motion = .rest ∨ x.motion = .unref ∨ x.motion = .jogging
    let travelEnd : Int :=
      match a with
      | .pan => if up then 20000 else -20000
      | .tilt => if up then 4500 else -1000
      | .pol => if up then 9500 else -9500
    let atEnd := if up then travelEnd ≤ x.position else x.position ≤ travelEnd
    (s.mastReady = false → Answered (.jog tag b d v) s 0x24 tag .lowMast [] s)
    ∧ (s.mastReady = true → (x.motion = .slewing ∨ x.motion = .settling ∨ x.motion = .homing) →
        Answered (.jog tag b d v) s 0x24 tag .state [] s)
    ∧ (s.mastReady = true → stands → x.referenced = false →
        Answered (.jog tag b d v) s 0x24 tag .ok [] (s.setAxis a (jogging none)))
    ∧ (s.mastReady = true → stands → x.referenced = true → atEnd → Answered (.jog tag b d v) s 0x24 tag .range [] s)
    ∧ (s.mastReady = true → stands → x.referenced = true → ¬ atEnd → a ≠ .pan →
        Answered (.jog tag b d v) s 0x24 tag .ok [] (s.setAxis a (jogging (some travelEnd))))
    ∧ (s.mastReady = true → stands → x.referenced = true → ¬ atEnd → a = .pan →
        let e := s.work.map.jogEnd x.position up
        (e.1 ≠ x.position →
          Answered (.jog tag b d v) s 0x24 tag .ok [] (s.setAxis a (jogging (some e.1))))
        ∧ (s.violation = none → ∀ k, e.2 = some k → e.1 = x.position →
          Answered (.jog tag b d v) s 0x24 tag .blocked []
            (({ s with violation := some { kind := .pathBlocked, sector := k, pan := x.position, fixNumber := s.fixNumber } } :
              State).raise .violation))
        ∧ (s.violation.isSome = true → e.2.isSome = true → e.1 = x.position →
          Answered (.jog tag b d v) s 0x24 tag .blocked [] { s with more := true })))

/-- HOME begins by the switches: the pan toward stow from the side that WRAP shows, the tilt down, or up where TILT_STOW is closed, the pol
negative, or first positive where its line is asserted; a moving axis is refused STATE, a referenced pan whose path to its index is
barred BLOCKED, and an unknown axis RANGE. The homing goes on by the switches: a stow switch that closes ends the approach, one that opens
before an edge has been met reverses the pan, and the tilt that is driven up, and one that opens a second time ends the pan's homing
STOPPED; the pol turns back where its line releases. An unreferenced axis that is stopped takes the count it stands at as its target (log
entry 35) (R58, R67 to R69). -/
def Obligations.HomeBeginsByTheSwitches : Prop :=
  (∀ (s : State) (tag b : Byte), s.takesNow → 2 < b.toNat → Answered (.home tag b) s 0x25 tag .range [] s)
  ∧ (∀ (s : State) (tag b : Byte), s.takesNow → s.Calm → s.pos.owner = .console → ∀ a, axisOf b = some a →
    let x := s.axis a
    let up := match a with | .pan => !s.lines.wrap.level | .tilt => s.lines.tiltStow.level | .pol => s.lines.polIndex.level
    let phase : HomePhase :=
      match a with
      | .pan => if s.lines.panStow.level then .seek else .approach
      | .tilt => if s.lines.tiltStow.level then .seek else .approach
      | .pol => if s.lines.polIndex.level then .outward else .seek
    let homing : AxisRec :=
      { x with
        motion := .homing, origin := .console, ending := .arrived, jog := none, jogTimer := none, settleTimer := none
        homing := some { begunReferenced := x.referenced, phase := phase }
        classInUse := (s.axisSettings a).slewClass, driveUp := up, progress := 0, stallTimer := some 2000 }
    let path := s.work.map.firstBlocked x.position (s.axisSettings a).indexPosition
    (x.motion = .unref ∨ (x.motion = .rest ∧ (a = .pan → path = none)) →
      Answered (.home tag b) s 0x25 tag .ok [] (s.setAxis a homing))
    ∧ (x.motion = .slewing ∨ x.motion = .settling ∨ x.motion = .jogging ∨ x.motion = .homing →
      Answered (.home tag b) s 0x25 tag .state [] s)
    ∧ (x.motion = .rest → a = .pan → s.violation = none → ∀ k, path = some k →
      Answered (.home tag b) s 0x25 tag .blocked []
        (({ s with violation := some { kind := .pathBlocked, sector := k, pan := x.position, fixNumber := s.fixNumber } } :
          State).raise .violation)))
  ∧ (∀ (s : State) (a : Axis) (n : Line), (a = .pan ∧ n = .panStow) ∨ (a = .tilt ∧ n = .tiltStow) →
    let x := s.axis a
    let raw := (s.lines.line n).raw
    let u : State := { s with lines := s.lines.setLine n { raw := raw, level := raw } }
    u.Calm → raw ≠ (s.lines.line n).level → x.motion = .homing → ∀ h, x.homing = some h →
    let leg (p : HomePhase) : AxisRec := { x with homing := some { h with phase := p }, classInUse := (s.axisSettings a).slewClass }
    let put (y : AxisRec) : Host.Outcome State Fault Refusal := .next (u.setAxis a y).arbitrate
    (h.phase = .approach → exec (.debounceExpiry n) s = put (if raw then leg .seek else x))
    ∧ (h.phase = .seek → raw = false → (a = .pan ∨ x.driveUp = true) →
      exec (.debounceExpiry n) s = put { leg .reversed with driveUp := !x.driveUp, progress := 0, stallTimer := some 2000 })
    ∧ (h.phase = .seek → raw = true ∨ (a = .tilt ∧ x.driveUp = false) → exec (.debounceExpiry n) s = put x)
    ∧ (h.phase = .reversed → raw = false → a = .pan →
      exec (.debounceExpiry n) s
        = put { x with
            motion := .settling, target := x.position, ending := .stopped, jog := none, jogTimer := none, homing := none
            settleTimer := some 200, stallTimer := none })
    ∧ (h.phase = .reversed → raw = true ∨ a = .tilt → exec (.debounceExpiry n) s = put x))
  ∧ ∀ (s : State), s.Calm → s.lines.polIndex.raw ≠ s.lines.polIndex.level → s.pos.pol.motion = .homing →
    ∀ h, s.pos.pol.homing = some h → ∀ c, s.lines.polIndex.captured = some c →
    let x := s.pos.pol
    let raw := s.lines.polIndex.raw
    let put (y : AxisRec) : Host.Outcome State Fault Refusal :=
      .next ({ s with
        lines := { s.lines with polIndex := { raw := raw, level := raw } }, pos := { s.pos with pol := y } } : State).arbitrate
    (h.phase = .outward → raw = false →
      exec (.debounceExpiry .polIndex) s
        = put { x with
            homing := some { h with phase := .seek }, classInUse := (s.axisSettings .pol).slewClass, driveUp := false, progress := 0
            stallTimer := some 2000 })
    ∧ ((h.phase = .outward ∧ raw = true) ∨ (h.phase = .seek ∧ raw = false) → exec (.debounceExpiry .polIndex) s = put x)

/-- STOW brings pan and tilt to their stowed positions together and leaves the pol: a referenced axis by position, an unreferenced one by
its switch, at once settling where the switch is closed, and else coming to a stand, toward ARRIVED, when its switch closes. A pan path
barred to pan 0 refuses it BLOCKED as a whole (R71). An axis that was homing in the direction of its switch keeps its stall mark (R64). An
unreferenced axis that comes to a stand takes the count it stands at as its target (log entry 35). That an axis on its way to its switch is in
HOMING is the model's choice (log entry 47). -/
def Obligations.StowMovesPanAndTilt : Prop :=
  (∀ (s : State) (tag : Byte), s.takesNow → s.Calm → s.pos.owner = .console →
    let byPosition (a : Axis) (t : Int) : AxisRec := moveTo a (s.axisSettings a).slewClass t .console (s.axis a)
    let bySwitch (a : Axis) (closed up : Bool) : AxisRec :=
      let x := s.axis a
      if closed then
        { x with
          motion := .settling, target := x.position, origin := .console, ending := .arrived, jog := none, jogTimer := none
          homing := none, settleTimer := some 200, stallTimer := none }
      else
        { x with
          motion := .homing, origin := .console, ending := .arrived, jog := none, jogTimer := none, settleTimer := none
          homing := some { begunReferenced := false, phase := .stowing }
          classInUse := (s.axisSettings a).slewClass, driveUp := up
          progress := if x.motion = .homing ∧ x.driveUp = up then x.progress else 0
          stallTimer := if x.motion = .homing ∧ x.driveUp = up then x.stallTimer else some 2000 }
    let pan := if s.pos.pan.referenced then byPosition .pan 0 else bySwitch .pan s.lines.panStow.level (!s.lines.wrap.level)
    let tilt := if s.pos.tilt.referenced then byPosition .tilt (-1000) else bySwitch .tilt s.lines.tiltStow.level false
    (s.pos.pan.referenced = false ∨ s.work.map.firstBlocked s.pos.pan.position 0 = none →
      Answered (.stow tag) s 0x26 tag .ok [] { s with pos := { s.pos with pan := pan, tilt := tilt } })
    ∧ (s.pos.pan.referenced = true → s.violation = none → ∀ k, s.work.map.firstBlocked s.pos.pan.position 0 = some k →
      Answered (.stow tag) s 0x26 tag .blocked []
        (({ s with violation := some { kind := .pathBlocked, sector := k, pan := s.pos.pan.position, fixNumber := s.fixNumber } } :
          State).raise .violation)))
  ∧ ∀ (s : State) (a : Axis) (n : Line), (a = .pan ∧ n = .panStow) ∨ (a = .tilt ∧ n = .tiltStow) →
    let x := s.axis a
    let raw := (s.lines.line n).raw
    let u : State := { s with lines := s.lines.setLine n { raw := raw, level := raw } }
    u.Calm → raw ≠ (s.lines.line n).level → x.motion = .homing → ∀ h, x.homing = some h → h.phase = .stowing →
    exec (.debounceExpiry n) s
      = .next (u.setAxis a
          (if raw then
            { x with
              motion := .settling, target := x.position, ending := .arrived, jog := none, jogTimer := none, homing := none
              settleTimer := some 200, stallTimer := none }
           else x)).arbitrate

/-- SLEW_SET replaces the slew class and INDEX_SET the index position of an axis, and nothing else; both are refused LOCKED under the lock,
and RANGE for an unknown code or an index position outside the settable range (R39, R52, R66, R79). -/
def Obligations.SlewSetAndIndexSetAreBodySettings : Prop :=
  ∀ (s : State) (tag b c : Byte) (p : Half), s.takesNow →
    (∀ a, axisOf b = some a → ∀ k, slewClassOf c = some k →
      (s.lock = false → Answered (.slewSet tag b c) s 0x28 tag .ok [] (s.setAxisSettings a { s.axisSettings a with slewClass := k }))
      ∧ (s.lock = true → Answered (.slewSet tag b c) s 0x28 tag .locked [] s))
    ∧ (2 < b.toNat ∨ 3 < c.toNat → Answered (.slewSet tag b c) s 0x28 tag .range [] s)
    ∧ (∀ a, axisOf b = some a →
      let lo : Int := match a with | .pan => -250 | .tilt => -990 | .pol => -9000
      let hi : Int := match a with | .pan => 250 | .tilt => -910 | .pol => 9000
      (lo ≤ p.toInt → p.toInt ≤ hi → s.lock = false →
        Answered (.indexSet tag b p) s 0x29 tag .ok [] (s.setAxisSettings a { s.axisSettings a with indexPosition := p.toInt }))
      ∧ (lo ≤ p.toInt → p.toInt ≤ hi → s.lock = true → Answered (.indexSet tag b p) s 0x29 tag .locked [] s)
      ∧ (p.toInt < lo ∨ hi < p.toInt → Answered (.indexSet tag b p) s 0x29 tag .range [] s))
    ∧ (2 < b.toNat → Answered (.indexSet tag b p) s 0x29 tag .range [] s)

/-- One count of an encoder moves the axis by 1 cdeg. A SLEWING axis that comes within its band begins to settle, else its progress is
counted, or, where its target has come to lie behind it, it reverses with a new stall mark; a SETTLING one that leaves its band slews again; a
homing, and a jog short of its end point or without one, counts its progress; a jog, SLOW or FAST, at its end point settles toward ARRIVED;
at a settle's end the axis is in REST, or in UNREF when unreferenced, with the last arrival status of its motion, and raises ARRIVAL; in REST a full slot at AT_REST is then
transferred, or emptied with REFUSED where the transfer is refused (R40, R51, R54, R57, R58, R60, R64, R72, R73). -/
def Obligations.EncoderCountsAndSettlesMoveTheAxis : Prop :=
  ∀ (s : State) (a : Axis) (up : Bool), s.Calm →
    let x := s.axis a
    let q := x.position + (if up then 1 else -1)
    let band : Nat := match a with | .pol => 50 | _ => 5
    let c : Half := if up then 1 else 0xFFFF
    let p := x.progress + (if up = x.driveUp then 1 else -1)
    let watched : AxisRec :=
      { x with
        position := q, movedUp := up, progress := if 10 ≤ p then 0 else p, stallTimer := if 10 ≤ p then some 2000 else x.stallTimer }
    (x.motion = .rest ∨ x.motion = .unref ∨ x.motion = .held →
      exec (.axisEncoderMove a c) s = .next (s.setAxis a { x with position := q, movedUp := up }).arbitrate)
    ∧ (x.motion = .slewing → band < (q - x.target).natAbs → x.driveUp = decide (q < x.target) →
      exec (.axisEncoderMove a c) s = .next (s.setAxis a watched).arbitrate)
    ∧ (x.motion = .slewing → band < (q - x.target).natAbs → x.driveUp ≠ decide (q < x.target) →
      exec (.axisEncoderMove a c) s
        = .next (s.setAxis a
          { x with
            position := q, movedUp := up, driveUp := decide (q < x.target), progress := 0, stallTimer := some 2000 }).arbitrate)
    ∧ (x.motion = .slewing → (q - x.target).natAbs ≤ band →
      exec (.axisEncoderMove a c) s
        = .next (s.setAxis a { watched with motion := .settling, settleTimer := some 200, stallTimer := none }).arbitrate)
    ∧ (x.motion = .settling → x.settleTimer.isSome = true → (q - x.target).natAbs ≤ band →
      exec (.axisEncoderMove a c) s = .next (s.setAxis a { x with position := q, movedUp := up }).arbitrate)
    ∧ (x.motion = .settling → x.referenced = true → band < (q - x.target).natAbs →
      exec (.axisEncoderMove a c) s
        = .next (s.setAxis a
          { x with
            position := q, movedUp := up, motion := .slewing, settleTimer := none, driveUp := decide (q < x.target), progress := 0
            stallTimer := some 2000 }).arbitrate)
    ∧ (x.motion = .homing ∨ (x.motion = .jogging ∧ ∀ j e, x.jog = some j → j.endPoint = some e → if j.positive then q < e else e < q) →
      exec (.axisEncoderMove a c) s = .next (s.setAxis a watched).arbitrate)
    ∧ (∀ fast, x.motion = .jogging → x.jog = some { positive := up, fast := fast, endPoint := some q } →
      exec (.axisEncoderMove a c) s
        = .next (s.setAxis a
          { watched with
            motion := .settling, target := q, ending := .arrived, jog := none, jogTimer := none, homing := none
            settleTimer := some 200, stallTimer := none }).arbitrate)
    ∧ (x.motion = .settling → x.settleTimer.isSome = true → x.origin = .console →
        (x.slot = none ∨ (s.axisSettings a).moment ≠ .atRest ∨ x.referenced = false) →
      exec (.axisSettleDone a) s
        = .next ((s.setAxis a
          { x with
            motion := if x.referenced then .rest else .unref, lastArrival := some x.ending, settleTimer := none
            stallTimer := none }).raise .arrival).arbitrate)
    ∧ (x.motion = .settling → x.settleTimer.isSome = true → x.origin = .console → x.referenced = true →
        (s.axisSettings a).moment = .atRest → ∀ t, x.slot = some t →
      let stands : AxisRec := { x with motion := .rest, lastArrival := some x.ending, settleTimer := none, stallTimer := none, slot := none }
      let refused (u : State) : Host.Outcome State Fault Refusal :=
        .next ((u.setAxis a { stands with lastArrival := some .refused }).raise .arrival).arbitrate
      let clear := a = .pan → s.work.map.firstBlocked x.position t = none
      let v (k : Nat) : Violation := { kind := .pathBlocked, sector := k, pan := x.position, fixNumber := s.fixNumber }
      (s.mastReady = true → clear →
        exec (.axisSettleDone a) s
          = .next ((s.setAxis a (moveTo a (s.axisSettings a).slewClass t .console stands)).raise .arrival).arbitrate)
      ∧ (s.mastReady = false → exec (.axisSettleDone a) s = refused s)
      ∧ (s.mastReady = true → a = .pan → ∀ k, s.work.map.firstBlocked x.position t = some k →
        (s.violation = none → exec (.axisSettleDone a) s = refused (({ s with violation := some (v k) } : State).raise .violation))
        ∧ (s.violation.isSome = true → exec (.axisSettleDone a) s = refused { s with more := true })))

/-- A stall of a driven axis, and of a raising mast, in a plant in which no search and no sequence runs (R64, R74, R94, R95, R126): the
source latches and raises TRIP. An AXIS_STALL takes all three axes to HELD where they stand, a MAST_STALL takes the mast to HELD with
both outputs off, each in the hands of the trip. An axis or a mast that is not driven cannot stall (log entry 3). A held axis that is
unreferenced takes the count it stands at as its target (log entry 35). -/
def Obligations.StallsTripAndHold : Prop :=
  ∀ (s : State) (a : Axis), s.Calm →
    let fixed (lowering : LoweringChoice) (p : PositionerChoice) : SourceRec :=
      { config :=
          { enabled := true, mode := .latched, delay := 0
            action := { raising := .stop, lowering := lowering, rest := .noAction, positioner := p, transmit := .inhibit } } }
    let held (x : AxisRec) : AxisRec :=
      { x with
        motion := .held, target := x.position, slot := none, origin := .trip, ending := .held, jog := none, jogTimer := none
        homing := none, settleTimer := none, stallTimer := none }
    let driven := (s.axis a).motion = .slewing ∨ (s.axis a).motion = .homing ∨ (s.axis a).motion = .jogging
    let lone := s.search.state = .idle ∧ (s.seq.state = .idle ∨ s.seq.state = .failed ∨ s.seq.state = .aborted)
    (driven → lone → s.pos.owner = .console → (s.mast.state = .nested ∨ s.mast.state = .rest) →
      s.trips.axisStall = fixed .goOn .hold →
      exec (.axisStallTimeout a) s
        = .next (({ s with
            trips := { s.trips with
              axisStall := { fixed .goOn .hold with
                state := .latchedWait
                axes := { pan := decide (a = .pan), tilt := decide (a = .tilt), pol := decide (a = .pol) } } }
            pos :=
              { pan := held s.pos.pan, tilt := held s.pos.tilt, pol := held s.pos.pol, owner := .trip, enacted := .hold } } :
          State).raise .trip).arbitrate)
    ∧ (¬ driven → exec (.axisStallTimeout a) s = .next s.arbitrate)
    ∧ (s.mast.state = .raising → lone → s.trips.mastStall = fixed .stop .noAction →
      exec .mastStallTimeout s
        = .next (({ s with
            trips := { s.trips with mastStall := { fixed .stop .noAction with state := .latchedWait } }
            mast := { s.mast with
              state := .held, compressor := false, vent := false, settleTimer := none, stallTimer := none, progress := 0
              heldIn := .raising, owner := .trip, origin := .trip } } :
          State).raise .trip).arbitrate)
    ∧ ((s.mast.state = .nested ∨ s.mast.state = .rest ∨ s.mast.state = .settling) → exec .mastStallTimeout s = .next s.arbitrate)

/-! ## The mast -/

/-- MAST_TO (R85, R86, R88, R89, R91, R97): the height is taken down to the raise limit, CLAMPED where that acted; then a mast of the console
that is referenced, NESTED, in REST or topping up raises, settles where it stands within the height tolerance or where the stop count is
reached already, lowers, or pauses in CLEAR_WAIT. It is refused TRIPPED while the entry for the mast's situation is STOP or LOWER, a raise
while the raising entry is, and a lowering while the lowering entry is STOP; then BUSY while another than the console owns the mast or a
search owns the positioner; then UNREFERENCED without a reference, and STATE while the mast moves. That a console's MAST_TO is refused
BUSY, and not TRIPPED, under a trip's lowering whose entry is CONTINUE is log entry 44; what would raise or lower, log entry 18. -/
def Obligations.MastToSetsOutForTheHeight : Prop :=
  ∀ (s : State) (tag : Byte) (height : Half), s.takesNow →
    let h := min height.toNat s.raiseLimit
    let st : Status := if h = height.toNat then .ok else .clamped
    let c := s.mast.counter
    let lead := s.work.mast.stopLead
    let near := 2 * c ≤ h + s.work.mast.tolerance ∧ h ≤ 2 * c + s.work.mast.tolerance
    let m := { s.mast with target := h, nudges := 0, origin := .console, leadInUse := lead, settleTimer := none }
    let settles (k : Nat) : Mast :=
      { m with
        stopCount := k, state := .settling, compressor := false, vent := false, settleKind := .afterMove, settleTimer := some 1000
        stallTimer := none }
    let barred := s.windowClosed = false ∧ h < s.work.mast.clearance ∧ c ≤ (s.work.mast.clearance + lead + 1) / 2
    let situation : Situation :=
      match s.mast.state with
      | .raising | .topping => .raising
      | .lowering | .clearWait => .lowering
      | .nudging => if s.mast.nudgeUp then .raising else .lowering
      | .held => s.mast.heldIn
      | _ => .atRest
    let bars (c : Situation) : Prop :=
      (c = .raising ∧ (s.action.raising = some .stop ∨ s.action.raising = some .lower))
        ∨ (c = .lowering ∧ s.action.lowering = some .stop) ∨ (c = .atRest ∧ s.action.rest = .lower)
    let tripped := bars situation ∨ (¬ near ∧ 2 * c < h ∧ bars .raising) ∨ (¬ near ∧ h < 2 * c ∧ bars .lowering)
    let admitted := ¬ tripped ∧ s.mast.owner = .console ∧ s.pos.owner ≠ .search
    let done (y : Mast) : Prop := Answered (.mastTo tag height) s 0x30 tag st [] { s with mast := y }
    (s.Calm → s.pos.owner ≠ .search → s.mast.owner = .console → s.mast.referenced = true →
        (s.mast.state = .nested ∨ s.mast.state = .rest ∨ s.mast.state = .topping) →
      (near → done (settles s.mast.stopCount))
      ∧ (¬ near → 2 * c < h → c < (h - lead) / 2 →
        done { m with
          stopCount := (h - lead) / 2, state := .raising, compressor := true, vent := false, stallTimer := some 3000, progress := 0 })
      ∧ (¬ near → 2 * c < h → (h - lead) / 2 ≤ c → done (settles ((h - lead) / 2)))
      ∧ (¬ near → h < 2 * c → 0 < h → c ≤ (h + lead) / 2 → done (settles ((h + lead) / 2)))
      ∧ (¬ near → h < 2 * c → (0 < h ∧ (h + lead) / 2 < c) ∨ (h = 0 ∧ s.lines.nest.level = false) →
        (¬ barred →
          done { m with
            stopCount := (h + lead) / 2, state := .lowering, compressor := false, vent := true, stallTimer := some 3000, progress := 0 })
        ∧ (barred →
          done { m with
            stopCount := (h + lead) / 2, state := .clearWait, compressor := false, vent := false, stallTimer := none
            waitsForNudge := false })))
    ∧ (tripped → Answered (.mastTo tag height) s 0x30 tag .tripped [] s)
    ∧ (¬ tripped → s.mast.owner ≠ .console ∨ s.pos.owner = .search → Answered (.mastTo tag height) s 0x30 tag .busy [] s)
    ∧ (admitted → s.mast.referenced = false → Answered (.mastTo tag height) s 0x30 tag .unreferenced [] s)
    ∧ (admitted → s.mast.referenced = true →
        (s.mast.state = .raising ∨ s.mast.state = .lowering ∨ s.mast.state = .clearWait ∨ s.mast.state = .settling
          ∨ s.mast.state = .nudging) →
        Answered (.mastTo tag height) s 0x30 tag .state [] s)

/-- MAST_LOWER from any state but NESTED and HELD begins the lowering to the nest, or pauses in CLEAR_WAIT where the clearance rule bars it; from
CLEAR_WAIT it keeps waiting for the stow window, wherever the pause point now lies; it leaves a NESTED mast. MAST_STOP abandons a motion or
a wait, turns a settle into a stop's, and leaves a mast that stands (R89, R90, R98, R99). Both are refused TRIPPED while the entry for the
mast's situation is STOP or LOWER, MAST_LOWER also while the lowering entry is STOP; then BUSY while another than the console owns the
mast, MAST_LOWER also while a search owns the positioner (R85). That the console's requests are refused BUSY, and not TRIPPED, under a
trip's lowering whose entry is CONTINUE is log entry 44. -/
def Obligations.MastLowersAndStops : Prop :=
  ∀ (s : State) (tag : Byte), s.takesNow →
    let lead := s.work.mast.stopLead
    let barred := s.windowClosed = false
      ∧ (s.mast.referenced = false
        ∨ (0 < s.work.mast.clearance ∧ s.mast.counter ≤ (s.work.mast.clearance + lead + 1) / 2))
    let m := { s.mast with
      target := 0, nudges := 0, origin := .console, stopCount := lead / 2, leadInUse := lead, compressor := false, settleTimer := none }
    let situation : Situation :=
      match s.mast.state with
      | .raising | .topping => .raising
      | .lowering | .clearWait => .lowering
      | .nudging => if s.mast.nudgeUp then .raising else .lowering
      | .held => s.mast.heldIn
      | _ => .atRest
    let bars (c : Situation) : Prop :=
      (c = .raising ∧ (s.action.raising = some .stop ∨ s.action.raising = some .lower))
        ∨ (c = .lowering ∧ s.action.lowering = some .stop) ∨ (c = .atRest ∧ s.action.rest = .lower)
    let waits : Mast := { m with state := .clearWait, vent := false, stallTimer := none, waitsForNudge := false }
    let tripped := bars situation ∨ bars .lowering
    (s.Calm → s.mast.owner = .console →
      (s.pos.owner ≠ .search → s.lines.nest.level = false → s.mast.state ≠ .nested → s.mast.state ≠ .clearWait →
        (¬ barred →
          Answered (.mastLower tag) s 0x31 tag .ok []
            { s with mast := { m with state := .lowering, vent := true, stallTimer := some 3000, progress := 0 } })
        ∧ (barred → Answered (.mastLower tag) s 0x31 tag .ok [] { s with mast := waits }))
      ∧ (s.pos.owner ≠ .search → s.lines.nest.level = false → s.mast.state = .clearWait →
        Answered (.mastLower tag) s 0x31 tag .ok [] { s with mast := waits })
      ∧ (s.pos.owner ≠ .search → s.mast.state = .nested → Answered (.mastLower tag) s 0x31 tag .ok [] s)
      ∧ ((s.mast.state = .raising ∨ s.mast.state = .lowering ∨ s.mast.state = .nudging ∨ s.mast.state = .topping
            ∨ s.mast.state = .clearWait) →
          Answered (.mastStop tag) s 0x32 tag .ok []
            { s with mast := { s.mast with
                state := .settling, compressor := false, vent := false, settleKind := .afterStop .stopped, settleTimer := some 1000
                stallTimer := none } })
      ∧ (s.mast.state = .settling →
          Answered (.mastStop tag) s 0x32 tag .ok [] { s with mast := { s.mast with settleKind := .afterStop .stopped } })
      ∧ ((s.mast.state = .unref ∨ s.mast.state = .nested ∨ s.mast.state = .rest) → Answered (.mastStop tag) s 0x32 tag .ok [] s))
    ∧ (tripped → Answered (.mastLower tag) s 0x31 tag .tripped [] s)
    ∧ (¬ tripped → s.mast.owner ≠ .console ∨ s.pos.owner = .search → Answered (.mastLower tag) s 0x31 tag .busy [] s)
    ∧ (bars situation → Answered (.mastStop tag) s 0x32 tag .tripped [] s)
    ∧ (¬ bars situation → s.mast.owner ≠ .console → Answered (.mastStop tag) s 0x32 tag .busy [] s)

/-- MAST_PARAM replaces one mast setting, with the mast NESTED, and nothing else (R83, R101). A value outside the setting's range, a
clearance height above the maximum extension and a maximum extension below the clearance height are refused RANGE, as is an unknown
setting; the first three settings are refused LOCKED under the lock. -/
def Obligations.MastParamReplacesOneSetting : Prop :=
  ∀ (s : State) (tag n : Byte) (v : Half), s.takesNow →
    let x := s.work.mast
    let k := n.toNat
    let lo := [1000, 1500, 500, 0, 10, 50].getD k 1
    let hi := [15000, 5000, 5000, 300, 200, 500].getD k 0
    let fits := lo ≤ v.toNat ∧ v.toNat ≤ hi ∧ (k = 0 → x.clearance ≤ v.toNat) ∧ (k = 2 → v.toNat ≤ x.maxExtension)
    let y : MastSettings :=
      { maxExtension := if k = 0 then v.toNat else x.maxExtension
        stowedPivot := if k = 1 then v.toNat else x.stowedPivot
        clearance := if k = 2 then v.toNat else x.clearance
        stopLead := if k = 3 then v.toNat else x.stopLead
        tolerance := if k = 4 then v.toNat else x.tolerance
        sagAllowance := if k = 5 then v.toNat else x.sagAllowance }
    (s.Calm → s.mast.state = .nested → s.mast.target = 0 → fits → (k ≤ 2 → s.lock = false) →
      Answered (.mastParam tag n v) s 0x34 tag .ok [] { s with work := { s.work with mast := y } })
    ∧ (¬ fits → Answered (.mastParam tag n v) s 0x34 tag .range [] s)
    ∧ (fits → k ≤ 2 → s.lock = true → Answered (.mastParam tag n v) s 0x34 tag .locked [] s)

/-- One count of the mast encoder moves the counter by 1 between 0 and 8000. A motion that goes on counts its progress. A raise or a top-up that
reaches its stop count or the raise limit settles, the top-up as one; a lowering settles at its stop count, a nudge up at half its target or
at the raise limit, a nudge down at half its target, each with both outputs off; a lowering or a nudge down that reaches the pause point with
the window open waits. A settle begins again with a change of the counter. A mast in REST that has sagged by more than the sag allowance is
topped up, but not at the raise limit or unreferenced, and settles at once where it has the stop count already (R81, R86, R88, R89, R90, R91,
R92, R93, R94). -/
def Obligations.MastCountsEndPauseAndTopUp : Prop :=
  ∀ (s : State) (up : Bool), s.Calm → s.mast.owner = .console →
    let c := if up then (if s.mast.counter < 8000 then s.mast.counter + 1 else s.mast.counter) else s.mast.counter - 1
    let lead := s.work.mast.stopLead
    let m := { s.mast with counter := c }
    let put (x : Mast) : Host.Outcome State Fault Refusal := .next ({ s with mast := x }).arbitrate
    let p := s.mast.progress + (if up then 1 else -1)
    let q := s.mast.progress + (if up then -1 else 1)
    let on (z : Int) : Mast :=
      { m with progress := if 10 ≤ z then 0 else z, stallTimer := if 10 ≤ z then some 3000 else s.mast.stallTimer }
    let ends (k : SettleKind) (z : Int) : Mast :=
      { m with
        progress := if 10 ≤ z then 0 else z, state := .settling, compressor := false, vent := false, settleKind := k
        settleTimer := some 1000, stallTimer := none }
    let free := s.windowClosed = true
      ∨ (s.mast.referenced = true
        ∧ (s.work.mast.clearance ≤ s.mast.target ∨ (s.work.mast.clearance + s.mast.leadInUse + 1) / 2 < c))
    ((s.mast.state = .nested ∨ s.mast.state = .unref ∨ s.mast.state = .clearWait
        ∨ (s.mast.state = .rest
          ∧ (s.mast.target ≤ 2 * c + s.work.mast.sagAllowance ∨ s.raiseLimit ≤ 2 * c ∨ s.mast.referenced = false))) →
      exec (.mastEncoderCount up) s = put m)
    ∧ (s.mast.state = .rest → 2 * c + s.work.mast.sagAllowance < s.mast.target → 2 * c < s.raiseLimit → s.mast.referenced = true →
        c < (s.mast.target - lead) / 2 →
      exec (.mastEncoderCount up) s
        = put { m with
            origin := .console, stopCount := (s.mast.target - lead) / 2, leadInUse := lead, state := .topping, compressor := true
            vent := false, settleTimer := none, stallTimer := some 3000, progress := 0 })
    ∧ (s.mast.state = .rest → 2 * c + s.work.mast.sagAllowance < s.mast.target → 2 * c < s.raiseLimit → s.mast.referenced = true →
        (s.mast.target - lead) / 2 ≤ c →
      exec (.mastEncoderCount up) s
        = put { m with
            origin := .console, stopCount := (s.mast.target - lead) / 2, leadInUse := lead, state := .settling, compressor := false
            vent := false, settleKind := .afterTopUp, settleTimer := some 1000, stallTimer := none })
    ∧ (s.mast.state = .raising ∨ s.mast.state = .topping → c < s.mast.stopCount → 2 * c < s.raiseLimit →
      exec (.mastEncoderCount up) s = put (on p))
    ∧ (s.mast.state = .raising → (s.mast.stopCount ≤ c ∨ s.raiseLimit ≤ 2 * c) →
      exec (.mastEncoderCount up) s = put (ends .afterMove p))
    ∧ (s.mast.state = .topping → (s.mast.stopCount ≤ c ∨ s.raiseLimit ≤ 2 * c) →
      exec (.mastEncoderCount up) s = put (ends .afterTopUp p))
    ∧ (s.mast.state = .nudging → s.mast.nudgeUp = true →
      (c < s.mast.target / 2 → 2 * c < s.raiseLimit → exec (.mastEncoderCount up) s = put (on p))
      ∧ (s.mast.target / 2 ≤ c ∨ s.raiseLimit ≤ 2 * c → exec (.mastEncoderCount up) s = put (ends .afterMove p)))
    ∧ (s.mast.state = .nudging → s.mast.nudgeUp = false →
      (c ≤ s.mast.target / 2 → exec (.mastEncoderCount up) s = put (ends .afterMove q))
      ∧ (s.mast.target / 2 < c → free → exec (.mastEncoderCount up) s = put (on q))
      ∧ (s.mast.target / 2 < c → ¬ free →
        exec (.mastEncoderCount up) s
          = put { m with
              progress := if 10 ≤ q then 0 else q, state := .clearWait, compressor := false, vent := false, settleTimer := none
              stallTimer := none, waitsForNudge := true }))
    ∧ (s.mast.state = .lowering → 0 < s.mast.target → c ≤ s.mast.stopCount → exec (.mastEncoderCount up) s = put (ends .afterMove q))
    ∧ (s.mast.state = .lowering → s.mast.target = 0 ∨ s.mast.stopCount < c → free → exec (.mastEncoderCount up) s = put (on q))
    ∧ (s.mast.state = .lowering → s.mast.referenced = true → s.windowClosed = false → s.lines.nest.level = false →
        s.mast.target < s.work.mast.clearance → (s.mast.target = 0 ∨ s.mast.stopCount < c) →
        c ≤ (s.work.mast.clearance + s.mast.leadInUse + 1) / 2 →
      exec (.mastEncoderCount up) s
        = put { m with
            progress := if 10 ≤ q then 0 else q, state := .clearWait, compressor := false, vent := false, settleTimer := none
            stallTimer := none, waitsForNudge := false })
    ∧ (s.mast.state = .settling →
      exec (.mastEncoderCount up) s
        = put { m with settleTimer := if c = s.mast.counter then s.mast.settleTimer else some 1000 })

/-- When the mast has stood still, a move that ends within the height tolerance of its target is REACHED; one that does not is nudged
toward it, at most twice, and is then HEIGHT_OFF; a nudge downward pauses in CLEAR_WAIT where the clearance rule bars it, which is told by a
TRIP or a SEQUENCE notice where one of these owns the mast; a stopped one takes its extension as its target, also above the raise limit (log
entry 36). A move of the console or of a trip raises ARRIVAL, and the mast stands NESTED, in REST or in UNREF as the nest switch and its
reference say; the end of a top-up writes and raises nothing (R82, R84, R89, R91, R92, R99, R128, R177). That the nest switch decides the
state after a top-up too, and after a raise that a new limit has stopped, is log entry 21. A raise that a new limit has stopped is judged by
that limit, also where a second one has lowered the target in the settle (log entry 50); where a new raise limit has lowered the target during the settle, no nudge lowers the mast after it (R87; log entry
37). A settle end of a mast that does not settle changes nothing (log entry 3). -/
def Obligations.MastSettlesThenStandsOrIsNudged : Prop :=
  ∀ (s : State),
    let ext := 2 * s.mast.counter
    let at_ (h : Nat) : Prop := ext ≤ h + s.work.mast.tolerance ∧ h ≤ ext + s.work.mast.tolerance
    let near := at_ s.mast.target
    let firm := s.mast.target ≤ ext + s.work.mast.sagAllowance
    let down := { s.mast with nudges := s.mast.nudges + 1, nudgeUp := false, leadInUse := s.work.mast.stopLead }
    let free := s.windowClosed = true
      ∨ (s.mast.referenced = true
        ∧ (s.work.mast.clearance ≤ s.mast.target ∨ (s.work.mast.clearance + s.work.mast.stopLead + 1) / 2 < s.mast.counter))
    let told (u : State) : State :=
      match s.mast.owner with
      | .console => u
      | .trip => u.raise .trip
      | .sequence => u.raise .sequence
    let still : Mast :=
      { s.mast with
        state := if s.lines.nest.level then .nested else if s.mast.referenced then .rest else .unref
        compressor := false, vent := false, settleTimer := none, stallTimer := none }
    let stood (t : Nat) (o : MastOutcome) : Host.Outcome State Fault Refusal :=
      .next (({ s with mast := { still with target := t, outcome := some o } } : State).raise .arrival).arbitrate
    (s.Calm → s.mast.state = .settling → s.mast.origin ≠ .sequence →
      (s.mast.settleKind = .afterMove → near → firm → exec .mastSettleDone s = stood s.mast.target .reached)
      ∧ (s.mast.settleKind = .afterMove → ¬ near → s.mast.nudges < 2 → s.mast.counter < s.mast.target / 2 → ext < s.raiseLimit →
        exec .mastSettleDone s
          = .next ({ s with mast := { s.mast with
              nudges := s.mast.nudges + 1, nudgeUp := true, state := .nudging, compressor := true, vent := false, settleTimer := none
              stallTimer := some 3000, progress := 0 } }).arbitrate)
      ∧ (s.mast.settleKind = .afterMove → ¬ near → s.mast.nudges < 2 → s.mast.target < ext →
        (free →
          exec .mastSettleDone s
            = .next ({ s with mast := { down with
                state := .nudging, compressor := false, vent := true, settleTimer := none, stallTimer := some 3000
                progress := 0 } }).arbitrate)
        ∧ (¬ free →
          exec .mastSettleDone s
            = .next (told { s with mast := { down with
                state := .clearWait, compressor := false, vent := false, settleTimer := none, stallTimer := none
                waitsForNudge := true } }).arbitrate))
      ∧ (s.mast.settleKind = .afterMove → ¬ near → 2 ≤ s.mast.nudges → firm → exec .mastSettleDone s = stood s.mast.target .heightOff)
      ∧ (s.mast.settleKind = .afterLowered → near → firm → exec .mastSettleDone s = stood s.mast.target .reached)
      ∧ (s.mast.settleKind = .afterLowered → ¬ near → s.mast.target < ext → exec .mastSettleDone s = stood s.mast.target .heightOff)
      ∧ (∀ h, s.mast.settleKind = .afterLimit h → firm →
        (at_ h → exec .mastSettleDone s = stood s.mast.target .reached)
        ∧ (¬ at_ h → exec .mastSettleDone s = stood s.mast.target .heightOff))
      ∧ (∀ o, s.mast.settleKind = .afterStop o → exec .mastSettleDone s = stood ext o))
    ∧ (s.Calm → s.mast.state = .settling → s.mast.settleKind = .afterTopUp → firm →
      exec .mastSettleDone s = .next ({ s with mast := still } : State).arbitrate)
    ∧ (s.mast.state ≠ .settling → exec .mastSettleDone s = .next s.arbitrate)

/-! ## The sensing inputs -/

/-- A conversion joins its channel's filter of 16 and becomes its latest count. A pitch or roll reading is (mean − zero) × gain / 1024, truncated
toward zero and brought into ±3000, formed exactly from the filter; a supply reading is mean × scale / 4096, truncated. While the TILT and SUPPLY sources are disabled it does no
more than record their causes: TILT present where a reading lies beyond the limit, absent where both lie 0.50° within it; SUPPLY present
below the low limit, absent more than 1.0 V above it (R103 to R106, R108, R109). A level sample of a running measurement is kept (R147). -/
def Obligations.ConversionsFillTheirFilters : Prop :=
  ∀ (s : State) (ch : Channel) (n : BitVec 12), s.Calm →
    let r := s.sense.channel ch
    let v := { s with
      sense := s.sense.setChannel ch
        { filter := (if r.filter.length < 16 then r.filter else r.filter.drop 1) ++ [n.toNat], latest := n.toNat } }
    let angle (r : ChannelRec) (offset gain : Nat) : Int :=
      max (-3000) (min 3000 ((((r.filter.sum : Int) - offset * r.filter.length) * gain).tdiv (1024 * r.filter.length)))
    let present (r : ChannelRec) (x : Int) : Option Int := if r.filter = [] then none else some x
    let pitch := angle v.sense.pitch s.work.sense.pitchZero s.work.sense.pitchGain
    let roll := angle v.sense.roll s.work.sense.rollZero s.work.sense.rollGain
    let p := if v.sense.pitch.filter = [] then 0 else pitch.natAbs
    let q := if v.sense.roll.filter = [] then 0 else roll.natAbs
    let limit := s.work.sense.tiltLimit
    let low := s.work.sense.supplyLow
    let tilted (b : Bool) := { v.trips with tilt := { v.trips.tilt with cause := b } }
    let starved (b : Bool) := { v.trips with supply := { v.trips.supply with cause := b } }
    (v.pitchReading = present v.sense.pitch pitch ∧ v.rollReading = present v.sense.roll roll)
    ∧ (ch = .level → s.search.measuring = .idle → exec (.conversion ch n) s = .next v.arbitrate)
    ∧ (ch = .level → s.search.measuring = .sampling [] → 1 < s.search.profile.samples →
        exec (.conversion ch n) s = .next ({ v with search := { s.search with measuring := .sampling [n.toNat] } }).arbitrate)
    ∧ ((ch = .pitch ∨ ch = .roll) → s.trips.tilt.config.enabled = false →
        ((limit < p ∨ limit < q) → exec (.conversion ch n) s = .next ({ v with trips := tilted true }).arbitrate)
        ∧ (p + 50 ≤ limit → q + 50 ≤ limit → exec (.conversion ch n) s = .next ({ v with trips := tilted false }).arbitrate)
        ∧ (p ≤ limit → q ≤ limit → (limit < p + 50 ∨ limit < q + 50) → exec (.conversion ch n) s = .next v.arbitrate))
    ∧ (ch = .supply → s.trips.supply.config.enabled = false →
        let x := v.sense.supply.filter.sum * s.work.sense.supplyScale / (4096 * v.sense.supply.filter.length)
        v.supplyReading = some x
        ∧ (x < low → exec (.conversion ch n) s = .next ({ v with trips := starved true }).arbitrate)
        ∧ (low + 10 < x → exec (.conversion ch n) s = .next ({ v with trips := starved false }).arbitrate)
        ∧ (low ≤ x → x ≤ low + 10 → exec (.conversion ch n) s = .next v.arbitrate))

/-- A raw change of a line starts its 20 ms, or ends them where the line returns to its debounced level. When they end the debounced level
changes: WRAP is only recorded, an opening NEST leaves NESTED for REST, a NEST that closes under a lowering for it ends the move there,
a stow switch that completes the stow window lets a mast in CLEAR_WAIT go on with its lowering or its nudge, which its owner is told, one
that opens it below the pause point pauses it there, and an ESTOP takes the axes to HELD (R74, R82, R89, R90, R110, R111, R112, R124, R128). The direction captured with an index line's position is that of the last
count (log entry 15); a raw level that is the present one, and a time that ends while the levels agree, change nothing (log entry 3). A held axis that is
unreferenced takes the count it stands at as its target (log entry 35). -/
def Obligations.LinesChangeAfterTheirDebounceTime : Prop :=
  ∀ (s : State) (n : Line) (level : Bool),
    let r := s.lines.line n
    let put (q : LineRec) : Host.Outcome State Fault Refusal := .next ({ s with lines := s.lines.setLine n q }).arbitrate
    let captured : Option (Int × Bool) :=
      match n with
      | .panIndex => some (s.pos.pan.position, s.pos.pan.movedUp)
      | .tiltIndex => some (s.pos.tilt.position, s.pos.tilt.movedUp)
      | .polIndex => some (s.pos.pol.position, s.pos.pol.movedUp)
      | _ => none
    (r.raw = level → exec (.lineRawChange n level) s = .next s.arbitrate)
    ∧ (r.raw ≠ level → r.level ≠ level →
        exec (.lineRawChange n level) s = put { r with raw := level, timer := some 20, captured := captured })
    ∧ (r.raw ≠ level → r.level = level →
        exec (.lineRawChange n level) s = put { r with raw := level, timer := none, captured := none })
    ∧ (r.raw = r.level → exec (.debounceExpiry n) s = .next s.arbitrate)
    ∧ (s.Calm → n = .wrap → r.raw ≠ r.level → exec (.debounceExpiry n) s = put { raw := r.raw, level := r.raw })
    ∧ (s.Calm → s.lines.nest = { raw := false, level := true, timer := s.lines.nest.timer } → s.mast.state = .nested →
        s.mast.compressor = false → s.mast.vent = false → s.mast.target ≤ 2 * s.mast.counter + s.work.mast.sagAllowance →
        exec (.debounceExpiry .nest) s
          = .next ({ s with
              lines := { s.lines with nest := {} }
              mast := { s.mast with state := .rest, settleTimer := none, stallTimer := none } }).arbitrate)
    ∧ (s.Calm → s.lines.nest = { raw := true, level := false, timer := s.lines.nest.timer } → s.mast.state = .lowering →
        s.mast.target = 0 → s.mast.owner = .console → s.mast.origin = .console →
        exec (.debounceExpiry .nest) s
          = .next (({ s with
              lines := { s.lines with nest := { raw := true, level := true } }
              mast := { s.mast with
                counter := 0, referenced := true, state := .nested, compressor := false, vent := false, settleTimer := none
                stallTimer := none, outcome := some .reached } } : State).raise .arrival).arbitrate)
    ∧ (s.Calm → n = .panStow ∨ n = .tiltStow → r.raw ≠ r.level →
        let w : State := { s with lines := s.lines.setLine n { raw := r.raw, level := r.raw } }
        let lead := s.work.mast.stopLead
        let told (t : State) : Prop :=
          (s.mast.owner = .trip → inKinds t.notices.pending .trip = true ∨ s.link.sending = none)
            ∧ (s.mast.owner = .sequence → inKinds t.notices.pending .sequence = true ∨ s.link.sending = none)
        let leaves (m : Mast) : Prop := ∃ t, exec (.debounceExpiry n) s = .next t ∧ t.lines = w.lines ∧ t.mast = m ∧ told t
        (s.mast.state = .clearWait → w.windowClosed = true →
          (s.mast.waitsForNudge = false → s.lines.nest.level = false → s.mast.target = 0 ∨ (s.mast.target + lead) / 2 < s.mast.counter →
            leaves { s.mast with
              state := .lowering, stopCount := (s.mast.target + lead) / 2, leadInUse := lead, compressor := false, vent := true
              settleTimer := none, stallTimer := some 3000, progress := 0 })
          ∧ (s.mast.waitsForNudge = false → 0 < s.mast.target → s.mast.counter ≤ (s.mast.target + lead) / 2 →
            leaves { s.mast with
              state := .settling, stopCount := (s.mast.target + lead) / 2, leadInUse := lead, compressor := false, vent := false
              settleKind := .afterMove, settleTimer := some 1000, stallTimer := none })
          ∧ (s.mast.waitsForNudge = true → s.mast.target / 2 < s.mast.counter →
            leaves { s.mast with
              state := .nudging, nudgeUp := false, leadInUse := lead, compressor := false, vent := true, settleTimer := none
              stallTimer := some 3000, progress := 0 }))
        ∧ (s.mast.state = .lowering → w.windowClosed = false → s.mast.target = 0 ∨ s.mast.stopCount < s.mast.counter →
            (s.mast.referenced = false
              ∨ (s.mast.target < s.work.mast.clearance
                ∧ s.mast.counter ≤ (s.work.mast.clearance + s.mast.leadInUse + 1) / 2)) → s.lines.nest.level = false →
          leaves { s.mast with
            state := .clearWait, compressor := false, vent := false, settleTimer := none, stallTimer := none, waitsForNudge := false }))
    ∧ (s.Calm → s.lines.estop = { raw := true, level := false, timer := s.lines.estop.timer } → s.pos.owner = .console →
        s.search.state = .idle → (s.seq.state = .idle ∨ s.seq.state = .failed ∨ s.seq.state = .aborted) →
        (s.mast.state = .nested ∨ s.mast.state = .rest) →
        s.trips.estop = fixedSource { raising := .stop, lowering := .stop, rest := .noAction, positioner := .hold, transmit := .inhibit } →
        s.trips.drive.cause = driveCause s.lines →
        s.trips.pressure.cause = contactCause s.work.sense.pressurePolarity s.lines.pressure.level →
        s.trips.aux.cause = contactCause s.work.sense.auxPolarity s.lines.aux.level →
        let held (x : AxisRec) : AxisRec :=
          { x with
            motion := .held, target := x.position, slot := none, origin := .trip, ending := .held, jog := none, jogTimer := none
            homing := none, settleTimer := none, stallTimer := none }
        exec (.debounceExpiry .estop) s
          = .next (({ s with
              lines := { s.lines with estop := { raw := true, level := true } }
              trips := { s.trips with estop := { s.trips.estop with state := .active, cause := true } }
              pos :=
                { pan := held s.pos.pan, tilt := held s.pos.tilt, pol := held s.pos.pol, owner := .trip, enacted := .hold } } :
            State).raise .trip).arbitrate)

/-- At an edge of its index line an axis that is referenced and stands corrects its position by an error of at most 20 cdeg, judged at the
position captured when the raw level changed; a larger error is a slip, which takes its reference away and trips. A homing axis that
seeks its edge is referenced there, its position counted from the index position, and comes to a stand at it (R65, R68, R70, R111).
The edge's direction is that of the count before the raw change (log entry 15). -/
def Obligations.IndexEdgesCorrectSlipOrReference : Prop :=
  ∀ (s : State) (a : Axis) (n : Line), (a = .pan ∧ n = .panIndex) ∨ (a = .tilt ∧ n = .tiltIndex) ∨ (a = .pol ∧ n = .polIndex) →
    s.Calm → (s.lines.line n).raw ≠ (s.lines.line n).level → ∀ at_ up, (s.lines.line n).captured = some (at_, up) →
    let x := s.axis a
    let raw := (s.lines.line n).raw
    let l := s.lines.setLine n { raw := raw, level := raw }
    let ix := (s.axisSettings a).indexPosition
    let edge : Edge := if up then .rising else .falling
    let q := ix + (x.position - at_)
    let near := (x.position - at_).natAbs ≤ (match a with | .pol => 50 | _ => 5)
    (x.motion = .rest → x.referenced = true → (ix - at_).natAbs ≤ 20 →
      exec (.debounceExpiry n) s
        = .next (({ s with lines := l }).setAxis a
            { x with
              position := x.position + (ix - at_)
              capture := some { outcome := .corrected, edge := edge, raw := some at_, correction := some (ix - at_) } }).arbitrate)
    ∧ (x.motion = .rest → x.referenced = true → 20 < (ix - at_).natAbs →
      ∃ t, exec (.debounceExpiry n) s = .next t ∧ (t.axis a).referenced = false
        ∧ (t.trips.slip.state = .clear → s.trips.slip.state ≠ .clear)
        ∧ (t.axis a).capture = some { outcome := .slipped, edge := edge, raw := some at_, correction := none })
    ∧ (x.motion = .homing → x.homing = some { begunReferenced := false, phase := .seek } → (a = .pol → raw = true) →
      exec (.debounceExpiry n) s
        = .next (({ s with lines := l }).setAxis a
            { x with
              referenced := true, position := q, target := ix, ending := .arrived, homing := none
              classInUse := (s.axisSettings a).slewClass
              capture := some { outcome := .referenced, edge := edge, raw := none, correction := none }
              motion := if near then .settling else .slewing
              settleTimer := if near then some 200 else none
              stallTimer := if near then none else some 2000
              driveUp := if near then x.driveUp else decide (q < ix)
              progress := if near then x.progress else 0 }).arbitrate)

/-- Pulses closer than 2 ms to the last are not counted; the others count up the pulse counter, which holds at 65,535, and down the gust
counter. The end of a gate forms the wind speed and releases WIND below the set value; it and WIND_SET start a new gate. The clauses on
the cause speak of a disabled WIND source, which only records it (R113 to R115, R119, R124). A pulse
carries the time since the last counted one (log entry 32). -/
def Obligations.WindIsMeasuredByGates : Prop :=
  ∀ (s : State) (tag : Byte) (since : Nat) (g w l : Half), s.Calm → s.trips.wind.config.enabled = false →
    let x := s.sense
    let y := s.work.sense
    let counted := { x with pulses := min 65535 (x.pulses + 1), gust := x.gust - 1 }
    let caused (b : Bool) := { s.trips with wind := { s.trips.wind with cause := b } }
    let load (z : SenseSettings) : Nat :=
      if z.windLimit = 0 then 0 else max 1 ((z.windLimit * z.gateLength + z.windRun * 10 - 1) / (z.windRun * 10))
    let set := max 1 ((y.windLimit * y.gateLength + y.windRun * 10 - 1) / (y.windRun * 10))
    let g' := if g.toNat < 100 then 100 else if 10000 < g.toNat then 10000 else g.toNat
    let z := { y with gateLength := g', windRun := w.toNat, windLimit := l.toNat }
    let fits := 1 ≤ w.toNat ∧ w.toNat ≤ 5000 ∧ l.toNat ≤ 600
    (since < 2000 → exec (.anemometerPulse since) s = .next s.arbitrate)
    ∧ (2000 ≤ since → (x.gust ≠ 1 ∨ y.windLimit = 0) → exec (.anemometerPulse since) s = .next ({ s with sense := counted }).arbitrate)
    ∧ (2000 ≤ since → x.gust = 1 → y.windLimit ≠ 0 →
        exec (.anemometerPulse since) s = .next ({ s with sense := counted, trips := caused true }).arbitrate)
    ∧ exec .gateEnd s
        = .next ({ s with
            sense := { x with windSpeed := x.pulses * y.windRun * 10 / y.gateLength, gateElapsed := 0, pulses := 0, gust := load y }
            trips := if x.pulses < set then caused false else s.trips }).arbitrate
    ∧ (s.takesNow → fits →
        Answered (.windSet tag g w l) s 0x3B tag (if g' = g.toNat then .ok else .clamped) []
          { s with
            work := { s.work with sense := z }
            sense := { x with gateElapsed := 0, pulses := 0, gust := load z }
            trips := if l = 0 then caused false else s.trips })
    ∧ (s.takesNow → ¬ fits → Answered (.windSet tag g w l) s 0x3B tag .range [] s)

/-- CAL_SET replaces one calibration item, and LIMIT_SET the two limits; nothing else of the settings changes (R117, R118). The gains are
clamped to 1 to 4096 with CLAMPED; a value outside its range, an unknown item or a polarity's unknown low byte is refused RANGE, and
LEVEL_HERE STATE while a filter is empty. The sources whose causes the change may move are disabled, so that they only record them.
A polarity is the low byte of its value (log entry 33). -/
def Obligations.CalibrationAndLimitsReplaceTheirSettings : Prop :=
  ∀ (s : State) (tag item : Byte) (v lim : Half), s.takesNow →
    let x := s.work.sense
    let k := item.toNat
    let n := v.toNat
    let g := if n < 1 then 1 else if 4096 < n then 4096 else n
    let st : Status := if g = n then .ok else .clamped
    let quiet := s.Calm ∧ s.trips.tilt.config.enabled = false ∧ s.trips.supply.config.enabled = false
      ∧ s.trips.pressure.config.enabled = false ∧ s.trips.aux.config.enabled = false
      ∧ s.trips.estop.cause = s.lines.estop.level ∧ s.trips.drive.cause = driveCause s.lines
    let done (c : Instr) (kind : Byte) (st : Status) (y : SenseSettings) : Prop :=
      ∃ t, exec c s = .next t ∧ Replied t kind tag st []
        ∧ (t = { s with work := { s.work with sense := y }, trips := t.trips, link := t.link })
        ∧ ∀ m, (t.trips.source m).state = (s.trips.source m).state ∧ (t.trips.source m).config = (s.trips.source m).config
    (quiet → k = 0 → n ≤ 4095 → done (.calSet tag item v) 0x39 .ok { x with pitchZero := n })
    ∧ (quiet → k = 1 → n ≤ 4095 → done (.calSet tag item v) 0x39 .ok { x with rollZero := n })
    ∧ (quiet → k = 2 → done (.calSet tag item v) 0x39 st { x with pitchGain := g })
    ∧ (quiet → k = 3 → done (.calSet tag item v) 0x39 st { x with rollGain := g })
    ∧ (quiet → k = 4 → 1 ≤ n → n ≤ 4096 → done (.calSet tag item v) 0x39 .ok { x with supplyScale := n })
    ∧ (quiet → k = 5 → n % 256 ≤ 1 →
        done (.calSet tag item v) 0x39 .ok { x with pressurePolarity := if n % 256 = 0 then .faultOpen else .faultClosed })
    ∧ (quiet → k = 6 → n % 256 ≤ 1 →
        done (.calSet tag item v) 0x39 .ok { x with auxPolarity := if n % 256 = 0 then .faultOpen else .faultClosed })
    ∧ (quiet → k = 7 → s.sense.pitch.filter ≠ [] → s.sense.roll.filter ≠ [] →
        done (.calSet tag item v) 0x39 .ok
          { x with
            pitchZero := s.sense.pitch.filter.sum / s.sense.pitch.filter.length
            rollZero := s.sense.roll.filter.sum / s.sense.roll.filter.length })
    ∧ (k = 7 → (s.sense.pitch.filter = [] ∨ s.sense.roll.filter = []) → Answered (.calSet tag item v) s 0x39 tag .state [] s)
    ∧ ((k ≤ 1 ∧ 4095 < n) ∨ (k = 4 ∧ (n = 0 ∨ 4096 < n)) ∨ ((k = 5 ∨ k = 6) ∧ 1 < n % 256) ∨ 7 < k →
        Answered (.calSet tag item v) s 0x39 tag .range [] s)
    ∧ (quiet → 100 ≤ v.toInt → v.toInt ≤ 2950 → 60 ≤ lim.toNat → lim.toNat ≤ 300 →
        done (.limitSet tag v lim) 0x3A .ok { x with tiltLimit := n, supplyLow := lim.toNat })
    ∧ (v.toInt < 100 ∨ 2950 < v.toInt ∨ lim.toNat < 60 ∨ 300 < lim.toNat → Answered (.limitSet tag v lim) s 0x3A tag .range [] s)

/-! ## The trips -/

/-- The combined action is the most severe entry of the contributing sources, field by field: STOP over LOWER for a rising mast, STOP over
CONTINUE for a lowering one, LOWER for one at rest, HOLD over STOW for the positioner, INHIBIT for the transmitter; a source contributes
while it is enabled and not CLEAR (R122, R129). -/
def Obligations.CombinedActionIsTheMostSevere : Prop :=
  ∀ (s : State),
    let gives (p : ActionRec → Prop) : Prop :=
      ∃ n ∈ allSources, (s.trips.source n).config.enabled = true ∧ (s.trips.source n).state ≠ .clear ∧ p (s.trips.source n).config.action
    (s.action.raising = some .stop ↔ gives (fun x => x.raising = .stop))
      ∧ (s.action.raising = none ↔ ¬ gives (fun _ => True))
      ∧ (s.action.lowering = some .stop ↔ gives (fun x => x.lowering = .stop))
      ∧ (s.action.lowering = none ↔ ¬ gives (fun _ => True))
      ∧ (s.action.rest = .lower ↔ gives (fun x => x.rest = .lower))
      ∧ (s.action.positioner = .hold ↔ gives (fun x => x.positioner = .hold))
      ∧ (s.action.positioner = .noAction ↔ ¬ gives (fun x => x.positioner ≠ .noAction))
      ∧ (s.action.transmit = .inhibit ↔ gives (fun x => x.transmit = .inhibit))

/-- TRIP_CONFIG replaces the configuration of a CLEAR source at once, with the delay clamped to 5 to 600; a source that is not CLEAR stages
it and goes on under its present one. Enabled while its cause stands, a source that was disabled goes to ACTIVE; disabled, a source that is
not CLEAR goes to CLEAR, its staged copy dropped and its timer stopped; both raise TRIP. A fixed source, an unknown source or code are refused RANGE, and the lock refuses LOCKED (R39, R132
to R136). An enable that is neither 0 nor 1 is refused RANGE by the model's choice (log entry 10). -/
def Obligations.TripConfigReplacesOrStages : Prop :=
  ∀ (s : State) (tag b e m : Byte) (d : Half) (r l q p x : Byte), s.takesNow →
    let delay := if d.toNat < 5 then 5 else if 600 < d.toNat then 600 else d.toNat
    let st : Status := if delay = d.toNat then .ok else .clamped
    let config : TripConfig :=
      { enabled := decide (e = 1)
        mode := if m = 0 then .latched else .selfClearing
        delay := delay
        action :=
          { raising := if r = 0 then .stop else .lower, lowering := if l = 0 then .goOn else .stop
            rest := if q = 0 then .noAction else .lower
            positioner := if p = 0 then .noAction else if p = 1 then .hold else .stow
            transmit := if x = 0 then .noAction else .inhibit } }
    let fields := e.toNat ≤ 1 ∧ m.toNat ≤ 1 ∧ r.toNat ≤ 1 ∧ l.toNat ≤ 1 ∧ q.toNat ≤ 1 ∧ p.toNat ≤ 2 ∧ x.toNat ≤ 1
    (∀ n, sourceOf b = some n → 5 ≤ b.toNat → fields → s.lock = false →
      let y := s.trips.source n
      (s.Calm → y.state = .clear → y.config.enabled = true ∨ e ≠ 1 →
        Answered (.tripConfig tag b e m d r l q p x) s 0x40 tag st []
          (s.setSource n
            (if e = 1 then { y with config := config, staged := none }
             else { y with config := config, staged := none, timer := 0, timerMs := 0, axes := {} })))
      ∧ (s.Calm → y.state = .clear → y.config.enabled = false → y.cause = false → e = 1 →
        Answered (.tripConfig tag b e m d r l q p x) s 0x40 tag st [] (s.setSource n { y with config := config, staged := none }))
      ∧ (y.state ≠ .clear → y.config.enabled = true → e = 1 →
        ∃ t, exec (.tripConfig tag b e m d r l q p x) s = .next t ∧ Replied t 0x40 tag st []
          ∧ t.trips = s.trips.setSource n { y with staged := some config })
      ∧ (y.state = .clear → y.config.enabled = false → y.cause = true → e = 1 →
        let u := (s.setSource n { y with state := .active, config := config, staged := none }).raise .trip
        (∃ t, exec (.tripConfig tag b e m d r l q p x) s = .next t ∧ Replied t 0x40 tag st []
          ∧ t.trips = u.trips ∧ inKinds t.notices.pending .trip = true)
        ∧ (s.Calm → p = 0 → s.mast.state = .nested → Answered (.tripConfig tag b e m d r l q p x) s 0x40 tag st [] u))
      ∧ (y.state ≠ .clear → e = 0 →
        let u :=
          (s.setSource n { y with state := .clear, config := config, staged := none, timer := 0, timerMs := 0, axes := {} }).raise .trip
        (∃ t, exec (.tripConfig tag b e m d r l q p x) s = .next t ∧ Replied t 0x40 tag st []
          ∧ t.trips = u.trips ∧ inKinds t.notices.pending .trip = true)
        ∧ (u.Calm → Answered (.tripConfig tag b e m d r l q p x) s 0x40 tag st [] u)))
    ∧ (b.toNat < 5 ∨ 9 < b.toNat ∨ ¬ fields → Answered (.tripConfig tag b e m d r l q p x) s 0x40 tag .range [] s)
    ∧ (5 ≤ b.toNat → b.toNat ≤ 9 → fields → s.lock = true → Answered (.tripConfig tag b e m d r l q p x) s 0x40 tag .locked [] s)

/-- A level cause that is released at an ACTIVE source takes it to LATCHED_WAIT or RELEASING by its mode, and one that appears to ACTIVE; the
clauses say so of WIND, whose cause a gate's end and a pulse hand on. A release time that ends clears its source, or leaves it in LATCHED_WAIT
where a staged configuration is LATCHED; TRIP_CLEAR clears the named sources that are in LATCHED_WAIT and lists those that still stand. A
source takes its staged configuration into effect at each of these, and the other sources are left (R115, R124, R127, R132, R138). The
list's bytes are laid out as log entry 9 says; a release time that ends at a source not RELEASING changes nothing (log entry 3), and a
refusal RANGE carries the status alone (log entry 40). -/
def Obligations.ReleasesAndTripClearClearSources : Prop :=
  ∀ (s : State) (tag : Byte) (v : Half) (n : Source),
    let y := s.trips.source n
    let cleared (r : SourceRec) : SourceRec :=
      { r with state := .clear, config := r.staged.getD r.config, staged := none, timer := 0, timerMs := 0, axes := {} }
    let w := s.trips.wind
    let fresh : TripConfig := w.staged.getD w.config
    let x := s.work.sense
    let set := max 1 ((x.windLimit * x.gateLength + x.windRun * 10 - 1) / (x.windRun * 10))
    (w.config.enabled = true → w.cause = true → w.state = .active → s.sense.pulses < set →
      (fresh.mode = .latched →
        ∃ t, exec .gateEnd s = .next t
          ∧ t.trips = { s.trips with wind := { w with state := .latchedWait, cause := false, config := fresh, staged := none } })
      ∧ (fresh.mode = .selfClearing →
        ∃ t, exec .gateEnd s = .next t
          ∧ t.trips = { s.trips with
              wind :=
                { w with state := .releasing, cause := false, config := fresh, staged := none, timer := fresh.delay, timerMs := 0 } }))
    ∧ (w.config.enabled = true → w.cause = false → s.sense.gust = 1 → x.windLimit ≠ 0 →
      (w.state = .clear →
        ∃ t, exec (.anemometerPulse 2000) s = .next t ∧ t.trips = { s.trips with wind := { w with state := .active, cause := true } })
      ∧ (w.state = .latchedWait →
        ∃ t, exec (.anemometerPulse 2000) s = .next t
          ∧ t.trips = { s.trips with wind := { w with state := .active, cause := true, config := fresh, staged := none } })
      ∧ (w.state = .releasing →
        ∃ t, exec (.anemometerPulse 2000) s = .next t
          ∧ t.trips = { s.trips with
              wind := { w with state := .active, cause := true, config := fresh, staged := none, timer := 0, timerMs := 0 } }))
    ∧ (y.state = .releasing → (y.staged.getD y.config).mode = .selfClearing →
      ∃ t, exec (.releaseTimerExpiry n) s = .next t ∧ t.trips = s.trips.setSource n (cleared y))
    ∧ (y.state = .releasing → (y.staged.getD y.config).mode = .latched →
      ∃ t, exec (.releaseTimerExpiry n) s = .next t
        ∧ t.trips = s.trips.setSource n
            { y with state := .latchedWait, config := y.staged.getD y.config, staged := none, timer := 0, timerMs := 0 })
    ∧ (y.state ≠ .releasing → exec (.releaseTimerExpiry n) s = .next s.arbitrate)
    ∧ (s.takesNow → v ≠ 0 → v.toNat ≤ 0x3FF →
      ∃ t, exec (.tripClear tag v) s = .next t
        ∧ Replied t 0x42 tag .ok (remainingBytes t.trips (allSources.filter (fun k => v.getLsbD (sourceIndex k))))
        ∧ t.trips.source n = (if v.getLsbD (sourceIndex n) = true ∧ y.state = .latchedWait then cleared y else y))
    ∧ (s.takesNow → v = 0 ∨ 0x3FF < v.toNat → Answered (.tripClear tag v) s 0x42 tag .range [] s)

/-- A trip takes the plant and gives it back (R71, R74, R75, R95, R96, R124, R127, R130). A positioner entry STOW empties the slots, stops the
pol, and brings pan and tilt to their stowed positions in the trip's hands, a referenced axis by position, an unreferenced one by its switch;
a pan path that is barred leaves the stow unrun, with the violation. A HOLD that gives way to a STOW starts that stow from HELD. When the
last contributor is released, axes that were held settle toward HELD and go back to the console; a stow that has ended goes back, and one
that runs keeps the positioner until it ends. A mast-at-rest entry LOWER, and a raising entry LOWER for a rising mast, lowers the mast in the
trip's hands, or lets it wait for the stow window; a held mast that is released settles toward HELD, and a trip's lowering that comes to the
nest goes back to the console. The clauses use WIND, whose cause a pulse hands on, in a plant in which no search and no sequence runs. That
an unreferenced axis takes the count it stands at as its target is log entry 35, and that a released axis takes the position that it has at
the release, log entry 42; that it is in HOMING on its way to its switch, log entry 47. -/
def Obligations.TripsTakeAndGiveBackThePlant : Prop :=
  (∀ (s : State), s.Calm → s.search.state = .idle → (s.seq.state = .idle ∨ s.seq.state = .failed ∨ s.seq.state = .aborted) →
    s.pos.owner = .console → s.sense.gust = 1 → s.work.sense.windLimit ≠ 0 →
    s.trips.wind.state = .clear → s.trips.wind.cause = false → s.trips.wind.config.enabled = true →
    let act := s.trips.wind.config.action
    let tripped :=
      { s with
        sense := { s.sense with pulses := min 65535 (s.sense.pulses + 1), gust := 0 }
        trips := { s.trips with wind := { s.trips.wind with state := .active, cause := true } } }
    let empty (x : AxisRec) : AxisRec := { x with slot := none }
    let stood (x : AxisRec) : AxisRec :=
      if x.motion = .slewing ∨ x.motion = .settling ∨ x.motion = .jogging ∨ x.motion = .homing then
        { x with
          motion := .settling, target := x.position, ending := .stopped, jog := none, jogTimer := none, homing := none
          settleTimer := some 200, stallTimer := none }
      else x
    let lead := s.work.mast.stopLead
    let down := { s.mast with
      target := 0, nudges := 0, origin := .trip, owner := .trip, stopCount := lead / 2, leadInUse := lead, compressor := false
      settleTimer := none }
    let barred := s.windowClosed = false
      ∧ (s.mast.referenced = false
        ∨ (0 < s.work.mast.clearance ∧ s.mast.counter ≤ (s.work.mast.clearance + lead + 1) / 2))
    let bySwitch (a : Axis) (closed up : Bool) : AxisRec :=
      let x := empty (s.axis a)
      if closed then
        { x with
          motion := .settling, target := x.position, origin := .trip, ending := .arrived, jog := none, jogTimer := none
          homing := none, settleTimer := some 200, stallTimer := none }
      else
        { x with
          motion := .homing, origin := .trip, ending := .arrived, jog := none, jogTimer := none, settleTimer := none
          homing := some { begunReferenced := false, phase := .stowing }
          classInUse := (s.axisSettings a).slewClass, driveUp := up
          progress := if x.motion = .homing ∧ x.driveUp = up then x.progress else 0
          stallTimer := if x.motion = .homing ∧ x.driveUp = up then x.stallTimer else some 2000 }
    let pan :=
      if s.pos.pan.referenced then moveTo .pan (s.axisSettings .pan).slewClass 0 .trip (empty s.pos.pan)
      else bySwitch .pan s.lines.panStow.level (!s.lines.wrap.level)
    let tilt :=
      if s.pos.tilt.referenced then moveTo .tilt (s.axisSettings .tilt).slewClass (-1000) .trip (empty s.pos.tilt)
      else bySwitch .tilt s.lines.tiltStow.level false
    (act.positioner = .stow → s.mast.state = .nested → s.pos.pol.motion ≠ .held →
      (s.pos.pan.referenced = false ∨ s.work.map.firstBlocked s.pos.pan.position 0 = none →
        exec (.anemometerPulse 2000) s
          = .next (({ tripped with
              pos := { s.pos with
                pan := pan, tilt := tilt
                pol := stood (empty s.pos.pol), owner := .trip, enacted := .stow, stowUnrun := false
                stowAwaits := { pan := true, tilt := true, pol := false } } } : State).raise .trip).arbitrate)
      ∧ (s.pos.pan.referenced = true → s.violation = none → s.pos.pan.motion ≠ .held → s.pos.tilt.motion ≠ .held →
        ∀ k, s.work.map.firstBlocked s.pos.pan.position 0 = some k →
        exec (.anemometerPulse 2000) s
          = .next ((({ tripped with
              violation := some { kind := .pathBlocked, sector := k, pan := s.pos.pan.position, fixNumber := s.fixNumber }
              pos := { s.pos with
                pan := stood (empty s.pos.pan), tilt := stood (empty s.pos.tilt), pol := stood (empty s.pos.pol)
                owner := .trip, enacted := .stow, stowUnrun := true, stowAwaits := {} } } : State).raise .trip).raise .violation).arbitrate))
    ∧ (act.positioner = .noAction → act.lowering = .goOn → s.lines.nest.level = false →
        (s.mast.state = .rest ∧ act.rest = .lower) ∨ (s.mast.state = .raising ∧ act.raising = .lower) →
      (¬ barred →
        exec (.anemometerPulse 2000) s
          = .next (({ tripped with
              mast := { down with state := .lowering, vent := true, stallTimer := some 3000, progress := 0 } } : State).raise
            .trip).arbitrate)
      ∧ (barred →
        exec (.anemometerPulse 2000) s
          = .next (({ tripped with
              mast := { down with state := .clearWait, vent := false, stallTimer := none, waitsForNudge := false } } : State).raise
            .trip).arbitrate)))
  ∧ (∀ (s : State) (n : Source), (s.trips.source n).state = .releasing →
    ((s.trips.source n).staged.getD (s.trips.source n).config).mode = .selfClearing →
    let y := s.trips.source n
    let u := s.setSource n
      { y with state := .clear, config := y.staged.getD y.config, staged := none, timer := 0, timerMs := 0, axes := {} }
    u.action = {} → s.gate.request = false → s.gate.state = .off →
    let released (x : AxisRec) : AxisRec :=
      if x.motion = .held then
        { x with
          motion := .settling, target := x.position, ending := .held, jog := none, jogTimer := none, homing := none
          settleTimer := some 200, stallTimer := none }
      else x
    (s.pos.owner = .trip → s.pos.enacted = .hold → s.pos.stowAwaits = {} → u.mastSteady = true →
      exec (.releaseTimerExpiry n) s
        = .next (({ u with
            pos := { s.pos with
              pan := released s.pos.pan, tilt := released s.pos.tilt, pol := released s.pos.pol, owner := .console
              enacted := .noAction } } : State).raise .trip).arbitrate)
    ∧ (s.pos.owner = .trip → s.pos.enacted = .stow → u.mastSteady = true →
      exec (.releaseTimerExpiry n) s
        = .next (({ u with
            pos := { s.pos with
              owner := if s.pos.stowAwaits = {} then .console else .trip, enacted := .noAction } } : State).raise .trip).arbitrate)
    ∧ (s.pos.owner ≠ .trip → s.pos.enacted = .noAction → s.mast.state = .held →
      exec (.releaseTimerExpiry n) s
        = .next (({ u with
            mast := { s.mast with
              state := .settling, compressor := false, vent := false, settleKind := .afterStop .held, settleTimer := some 1000
              stallTimer := none, owner := .console } } : State).raise .trip).arbitrate))
  ∧ (∀ (s : State) (n : Source), (s.trips.source n).state = .releasing →
    ((s.trips.source n).staged.getD (s.trips.source n).config).mode = .selfClearing →
    let y := s.trips.source n
    let u := s.setSource n
      { y with state := .clear, config := y.staged.getD y.config, staged := none, timer := 0, timerMs := 0, axes := {} }
    u.action.positioner = .stow → s.gate.request = false → s.gate.state = .off → s.mast.state = .nested →
    s.pos.owner = .trip → s.pos.enacted = .hold → (∀ a, (s.axis a).motion = .held) →
    s.pos.pan.referenced = true → s.pos.tilt.referenced = true → s.work.map.firstBlocked s.pos.pan.position 0 = none →
    exec (.releaseTimerExpiry n) s
      = .next (({ u with
          pos := { s.pos with
            pan := moveTo .pan (s.axisSettings .pan).slewClass 0 .trip s.pos.pan
            tilt := moveTo .tilt (s.axisSettings .tilt).slewClass (-1000) .trip s.pos.tilt
            pol :=
              { s.pos.pol with
                motion := .settling, target := s.pos.pol.position, ending := .held, jog := none, jogTimer := none, homing := none
                settleTimer := some 200, stallTimer := none }
            enacted := .stow, stowUnrun := false, stowAwaits := { pan := true, tilt := true, pol := false } } } : State).raise .trip).arbitrate)
  ∧ (∀ (s : State) (a : Axis), a = .pan ∨ a = .tilt → s.action = {} → s.gate.request = false → s.gate.state = .off →
    s.mastSteady = true → s.pos.owner = .trip → s.pos.enacted = .noAction → (∀ b, s.pos.stowAwaits.has b = decide (b = a)) →
    (s.axis a).motion = .settling → (s.axis a).settleTimer.isSome = true → (s.axis a).origin = .trip → (s.axis a).referenced = true →
    (s.axis a).slot = none →
    exec (.axisSettleDone a) s
      = .next ((({ s.setAxis a
          { s.axis a with motion := .rest, lastArrival := some (s.axis a).ending, settleTimer := none, stallTimer := none } with
        pos := { (s.setAxis a
          { s.axis a with motion := .rest, lastArrival := some (s.axis a).ending, settleTimer := none, stallTimer := none }).pos with
            owner := .console, stowAwaits := {} } } : State)).raise .arrival).arbitrate)
  ∧ ∀ (s : State), s.Calm → s.lines.nest.raw = true → s.lines.nest.level = false → s.mast.state = .lowering → s.mast.target = 0 →
    s.mast.owner = .trip → s.mast.origin = .trip →
    exec (.debounceExpiry .nest) s
      = .next (({ s with
          lines := { s.lines with nest := { raw := true, level := true } }
          mast := { s.mast with
            counter := 0, referenced := true, state := .nested, compressor := false, vent := false, settleTimer := none
            stallTimer := none, outcome := some .reached, owner := .console } } : State).raise .arrival).arbitrate

/-- Every step keeps the trip sources sound: one that is disabled is CLEAR, one in RELEASING is SELF_CLEARING, a staged configuration is an
enabled one of a source that is not CLEAR, and a fixed source is enabled and LATCHED. A LATCHED source that is not CLEAR leaves its
non-CLEAR states by no command but TRIP_CLEAR, TRIP_CONFIG and the resets (R121, R122, R124, R125, R132, R135): none but POWER_ON, the
RESET line, those two requests, a frame or a byte that may complete such a request, and the end of the reply to RESTART; no frame
waits behind the command. -/
def Obligations.LatchedSourcesStayUntilCleared : Prop :=
  (∀ s t : State, s.TripsSound → step s = .next t → t.TripsSound)
  ∧ ∀ (c : Instr) (s t : State) (n : Source), s.TripsSound → s.link.queue = [] →
    c ≠ .powerOn → c ≠ .resetLine → (∀ b, c ≠ .byteReceived b) → (∀ k g l, c ≠ .unknownKindFrame k g l) →
    (∀ g v, c ≠ .tripClear g v) → (∀ g b e m d r l q p x, c ≠ .tripConfig g b e m d r l q p x) →
    (c = .frameSent → ∀ f, s.link.sending = some f → f.restarts = false) →
    (s.trips.source n).config.mode = .latched → (s.trips.source n).state ≠ .clear → exec c s = .next t →
    (t.trips.source n).state ≠ .clear

/-! ## The peak search -/

/-- A SEARCH that passes its checks takes the positioner, empties the slots, sets the LEVEL window to the site's beacon limits and begins
its centre measurement where the dish stands; one from a SITE takes the raw solution with it. It is refused RANGE, TRIPPED, BUSY,
UNREFERENCED, STATE, LOW_MAST and NO_SITE in that order. One from a SITE whose raw solution is refused ends at once, NO_FIX or GEOMETRY: its
record is written, SEARCH_DONE raised, and nothing else changes (R143 to R145). The parts of the record that R145 does not name keep what
they held (log entry 26). -/
def Obligations.SearchBeginsAtTheCentre : Prop :=
  ∀ (s : State) (tag k o n : Byte), s.takesNow →
    let kind : SearchKind := if k = 0 then .acquire else .track
    let profile := if k = 0 then s.work.acquire else s.work.track
    let empty (x : AxisRec) : AxisRec := { x with slot := none }
    let go (origin : SearchOrigin) (r : Site) (raw : Option (Int × Int)) : State :=
      { s with
        pos := { s.pos with pan := empty s.pos.pan, tilt := empty s.pos.tilt, pol := empty s.pos.pol, owner := .search }
        sense := { s.sense with levelFloor := r.beaconFloor, levelCeiling := r.beaconCeiling }
        search :=
          { state := .measureCentre, kind := some kind, origin := some origin, beaconSite := some r.number
            ownerBefore := some .console, profile := profile, startPan := s.pos.pan.position, startTilt := s.pos.tilt.position
            raw := raw, centrePan := s.pos.pan.position, centreTilt := s.pos.tilt.position, step := profile.initialStep
            measuring := .dwelling, dwellTimer := some profile.dwell } }
    let fields := k.toNat ≤ 1 ∧ o.toNat ≤ 1 ∧ n.toNat ≤ 15
    let free := s.Calm ∧ s.pos.owner = .console
    let known := s.pos.pan.referenced = true ∧ s.pos.tilt.referenced = true
    let stands := s.pos.pan.motion = .rest ∧ s.pos.tilt.motion = .rest ∧ s.mast.state = .rest
    let ended (f : FinalStatus) : State :=
      State.raise
        { s with
          search :=
            { s.search with
              state := .idle, kind := some kind, origin := some (.site n.toNat), beaconSite := some n.toNat, profile := profile
              startPan := s.pos.pan.position, startTilt := s.pos.tilt.position, centrePan := s.pos.pan.position
              centreTilt := s.pos.tilt.position, step := profile.initialStep, measured := 0, probes := [{}, {}, {}, {}]
              final := some f, stored := false, probeAt := 0, measuring := .idle, dwellTimer := none } } .searchDone
    (fields → free → known → stands → s.mastReady = true → ∀ r, s.site? n.toNat = some r →
      (o = 1 → Answered (.search tag k o n) s 0x44 tag .ok [] (go .here r none))
      ∧ (o = 0 → ∀ raw, rawSolution (s.solveInputs n.toNat s.extension) = .ok raw →
          Answered (.search tag k o n) s 0x44 tag .ok [] (go (.site n.toNat) r (some raw)))
      ∧ (o = 0 → rawSolution (s.solveInputs n.toNat s.extension) = .error .noFix →
          Answered (.search tag k o n) s 0x44 tag .noFix [] (ended .noFix))
      ∧ (o = 0 → rawSolution (s.solveInputs n.toNat s.extension) = .error .geometry →
          Answered (.search tag k o n) s 0x44 tag .geometry [] (ended .geometry)))
    ∧ (¬ fields → Answered (.search tag k o n) s 0x44 tag .range [] s)
    ∧ (fields → s.positionerInForce = true → Answered (.search tag k o n) s 0x44 tag .tripped [] s)
    ∧ (fields → s.positionerInForce = false → s.pos.owner ≠ .console → Answered (.search tag k o n) s 0x44 tag .busy [] s)
    ∧ (fields → free → ¬ known → Answered (.search tag k o n) s 0x44 tag .unreferenced [] s)
    ∧ (fields → free → known → ¬ stands → Answered (.search tag k o n) s 0x44 tag .state [] s)
    ∧ (fields → free → known → stands → s.mastReady = false → Answered (.search tag k o n) s 0x44 tag .lowMast [] s)
    ∧ (fields → free → known → stands → s.mastReady = true → s.site? n.toNat = none →
        Answered (.search tag k o n) s 0x44 tag .noSite [] s)

/-- The end of a dwell opens the sampling. The last sample completes a measurement: a count at the LEVEL ceiling ends the search SATURATED, a
centre below the floor BEACON_ABSENT; a centre else begins the first round, a probe goes on to the next, and one that spends the budget sends
the dish back to the centre. A round moves the centre to its earliest best probe where that beats the centre by more than the margin; else
the step halves, or the search has converged: the last probe of a round begins the next one about the new centre, or at the new step, or sends
the dish back to the centre (R147 to R151). When the dish stands again a measurement begins, or a finishing search ends with
its final status; CONVERGED or BUDGET_SPENT from a SITE writes the offset of the centre from the raw solution to that site where it lies within
500 cdeg in both axes (R3, R146, R152, R153). SEARCH_ABORT ends a running search ABORTED, with pan and tilt stopped and the positioner back
with its owner before, stores no offset, and is refused STATE while none runs (R155, R161). A dwell end while none runs changes nothing (log
entry 3). -/
def Obligations.SearchesMeasureJudgeAndEnd : Prop :=
  (∀ (s : State) (tag : Byte),
    let stood (x : AxisRec) : AxisRec :=
      if x.motion = .slewing ∨ x.motion = .settling ∨ x.motion = .jogging ∨ x.motion = .homing then
        { x with
          motion := .settling, target := x.position, ending := .stopped, jog := none, jogTimer := none, homing := none
          settleTimer := some 200, stallTimer := none }
      else x
    (s.search.state ≠ .idle → s.search.measuring = .dwelling →
      exec .searchDwellDone s
        = .next ({ s with search := { s.search with measuring := .sampling [], dwellTimer := none } }).arbitrate)
    ∧ (s.search.state = .idle ∨ s.search.measuring ≠ .dwelling → exec .searchDwellDone s = .next s.arbitrate)
    ∧ (s.takesNow → s.Calm → s.search.state ≠ .idle → s.pos.owner = .search → s.search.ownerBefore = some .console →
      Answered (.searchAbort tag) s 0x45 tag .ok []
        (({ s with
            pos := { s.pos with pan := stood s.pos.pan, tilt := stood s.pos.tilt, owner := .console }
            search := { s.search with
              state := .idle, final := some .aborted, stored := false, measuring := .idle, dwellTimer := none } } :
          State).raise .searchDone))
    ∧ (s.takesNow → s.search.state = .idle → Answered (.searchAbort tag) s 0x45 tag .state [] s))
  ∧ (∀ (s : State) (n : BitVec 12), s.Calm → s.pos.owner = .search → s.search.ownerBefore = some .console →
    ∀ counts, s.search.measuring = .sampling counts → s.search.profile.samples ≤ counts.length + 1 →
    let q := s.search
    let v := { s with
      sense := s.sense.setChannel .level
        { filter := (if s.sense.level.filter.length < 16 then s.sense.level.filter else s.sense.level.filter.drop 1) ++ [n.toNat]
          latest := n.toNat } }
    let mean := (counts ++ [n.toNat]).sum / (counts.length + 1)
    let saturated := ∃ c ∈ counts ++ [n.toNat], s.sense.levelCeiling ≤ c
    let go (a : Axis) (t : Int) : AxisRec :=
      if (s.axis a).target = t then s.axis a else moveTo a (s.axisSettings a).slewClass t .search (s.axis a)
    let sent (p t : Int) (r : Search) : State := { v with pos := { s.pos with pan := go .pan p, tilt := go .tilt t }, search := r }
    let away (p t : Int) : Prop := s.pos.pan.target ≠ p ∨ s.pos.tilt.target ≠ t
    let clear (p : Int) : Prop := s.work.map.firstBlocked s.pos.pan.position p = none
    let measurable (p t : Int) : Prop := q.within { pan := p, tilt := t } ∧ -20000 ≤ p ∧ p ≤ 20000 ∧ -500 ≤ t ∧ t ≤ 4500 ∧ clear p
    let ready := s.pos.pan.referenced = true ∧ s.pos.tilt.referenced = true ∧ s.mastReady = true
    let around (p t : Int) (h : Nat) : List Probe :=
      [{ pan := p + h, tilt := t }, { pan := p - h, tilt := t }, { pan := p, tilt := t + h }, { pan := p, tilt := t - h }]
    let ends (f : FinalStatus) (r : Search) : Prop :=
      exec (.conversion .level n) s
        = .next (({ v with
            pos := { s.pos with owner := .console }
            search := { r with state := .idle, final := some f, stored := false, measuring := .idle, dwellTimer := none } } :
          State).raise .searchDone).arbitrate
    (q.state = .measureCentre →
      (saturated → ends .saturated q)
      ∧ (¬ saturated → mean < s.sense.levelFloor → ends .beaconAbsent q)
      ∧ (¬ saturated → s.sense.levelFloor ≤ mean → ready →
        measurable (q.centrePan + q.step) q.centreTilt → away (q.centrePan + q.step) q.centreTilt →
        exec (.conversion .level n) s
          = .next (sent (q.centrePan + q.step) q.centreTilt
            { q with
              state := .probing, centreLevel := mean, probeAt := 0, measuring := .moving, dwellTimer := none
              probes := around q.centrePan q.centreTilt q.step }).arbitrate))
    ∧ (q.state = .probing → q.probeAt < q.probes.length →
      let r : Search :=
        { q with
          measured := q.measured + 1
          probes := q.probes.set q.probeAt { q.probes.getD q.probeAt {} with outcome := .level mean } }
      (saturated → ends .saturated r)
      ∧ (¬ saturated → q.profile.budget ≤ q.measured + 1 → ready → clear q.centrePan → away q.centrePan q.centreTilt →
        exec (.conversion .level n) s
          = .next (sent q.centrePan q.centreTilt
            { r with state := .finishing, final := some .budgetSpent, measuring := .moving, dwellTimer := none }).arbitrate)
      ∧ (¬ saturated → q.measured + 1 < q.profile.budget → ready → q.probeAt < 3 → ∀ p, q.probes[q.probeAt + 1]? = some p →
        measurable p.pan p.tilt → away p.pan p.tilt →
        exec (.conversion .level n) s
          = .next (sent p.pan p.tilt { r with probeAt := q.probeAt + 1, measuring := .moving, dwellTimer := none }).arbitrate)
      ∧ (¬ saturated → q.measured + 1 < q.profile.budget → ready → q.probeAt = 3 → q.probes.length = 4 →
        (∀ w p, r.judge = .centre w p → measurable (p.pan + q.step) p.tilt → away (p.pan + q.step) p.tilt →
          exec (.conversion .level n) s
            = .next (sent (p.pan + q.step) p.tilt
              { r with
                centrePan := p.pan, centreTilt := p.tilt, centreLevel := w, probes := around p.pan p.tilt q.step, probeAt := 0
                measuring := .moving, dwellTimer := none }).arbitrate)
        ∧ (∀ h : Nat, r.judge = .halve h → measurable (q.centrePan + h) q.centreTilt → away (q.centrePan + h) q.centreTilt →
          exec (.conversion .level n) s
            = .next (sent (q.centrePan + h) q.centreTilt
              { r with
                step := h, probes := around q.centrePan q.centreTilt h, probeAt := 0, measuring := .moving
                dwellTimer := none }).arbitrate)
        ∧ (r.judge = .converged → clear q.centrePan → away q.centrePan q.centreTilt →
          exec (.conversion .level n) s
            = .next (sent q.centrePan q.centreTilt
              { r with
                probeAt := 4, state := .finishing, final := some .converged, measuring := .moving, dwellTimer := none }).arbitrate))))
  ∧ (∀ q : Search,
    let beats (v : Nat) : Prop := q.centreLevel + q.profile.margin < v
    (∀ v p, q.judge = .centre v p →
      beats v ∧ ∃ k : Nat, q.probes[k]? = some p ∧ p.outcome = .level v
        ∧ ∀ (j : Nat) (o : Probe) (w : Nat), q.probes[j]? = some o → o.outcome = .level w → w ≤ v ∧ (j < k → w < v))
    ∧ ((∃ p ∈ q.probes, ∃ v, p.outcome = .level v ∧ beats v) → ∃ v p, q.judge = .centre v p)
    ∧ ((∀ p ∈ q.probes, ∀ v, p.outcome = .level v → ¬ beats v) →
      q.judge = (if q.step / 2 < q.profile.minStep then .converged else .halve (q.step / 2))))
  ∧ ∀ (s : State) (a b : Axis), (a = .pan ∧ b = .tilt) ∨ (a = .tilt ∧ b = .pan) → s.Calm → s.pos.owner = .search →
    s.search.ownerBefore = some .console → s.search.measuring = .moving →
    (s.axis a).motion = .settling → (s.axis a).settleTimer.isSome = true → (s.axis a).origin = .search → (s.axis a).ending = .arrived →
    (s.axis a).referenced = true → (s.axis a).slot = none → (s.axis b).motion = .rest →
    let v := s.setAxis a { s.axis a with motion := .rest, lastArrival := some .arrived, settleTimer := none, stallTimer := none }
    let ended (f : FinalStatus) (l : List Site) (stored : Bool) : Host.Outcome State Fault Refusal :=
      .next (({ v with
          sites := l
          pos := { v.pos with owner := .console }
          search := { s.search with state := .idle, final := some f, stored := stored, measuring := .idle, dwellTimer := none } } :
        State).raise .searchDone).arbitrate
    (s.search.state = .measureCentre ∨ s.search.state = .probing →
      exec (.axisSettleDone a) s
        = .next ({ v with search := { s.search with measuring := .dwelling, dwellTimer := some s.search.profile.dwell } }).arbitrate)
    ∧ (s.search.state = .finishing → ∀ f, s.search.final = some f →
      (∀ n raw x, s.search.origin = some (.site n) → s.search.raw = some raw → s.fix = some x →
        let pan := s.search.centrePan - raw.1
        let tilt := s.search.centreTilt - raw.2
        (f = .converged ∨ f = .budgetSpent → pan.natAbs ≤ 500 → tilt.natAbs ≤ 500 → (s.site? n).isSome = true →
          exec (.axisSettleDone a) s
            = ended f (s.sites.map (fun r =>
                if r.number = n then { r with learned := some { pan := pan, tilt := tilt, lat := x.lat, lon := x.lon } } else r)) true)
        ∧ (500 < pan.natAbs ∨ 500 < tilt.natAbs ∨ s.site? n = none → exec (.axisSettleDone a) s = ended f s.sites false))
      ∧ (s.search.origin = some .here → exec (.axisSettleDone a) s = ended f s.sites false))

/-- Every step keeps the bounds of a search: the probes it measures never exceed its budget (R150), every level in its probe list was
measured within the radius of the place where it started (R149), its step is not below its minimum from the centre measurement on (R142,
R144), and while it probes it has budget left and four probes in its list, and measures within the radius alone (R151). -/
def Obligations.EveryStepKeepsTheSearchBounded : Prop :=
  ∀ s t : State, s.Inv → s.SearchBounded → step s = .next t → t.SearchBounded

/-- SEARCH_PARAM replaces a profile, its values clamped and the minimum step brought down to the initial step; a wrong number of samples or
an unknown profile is refused RANGE. A step or a radius is a signed number, and a negative one is clamped as well (log entry 16). TRACK
starts the TRACK timer, repeating at the clamped interval, or stops it (R163, R164). ON is coded 0 and OFF 1 (log entry 33). -/
def Obligations.SearchParamAndTrackSetTheirRecords : Prop :=
  ∀ (s : State) (tag b : Byte) (i m g d : Half) (n u : Byte) (r v : Half), s.takesNow →
    let clamp (lo hi x : Int) : Int := if x < lo then lo else if hi < x then hi else x
    let i' := clamp 5 500 i.toInt
    let m' := min i' (clamp 5 100 m.toInt)
    let g' := clamp 0 255 g.toNat
    let d' := clamp 50 2000 d.toNat
    let u' := clamp 8 60 u.toNat
    let r' := clamp 50 1000 r.toInt
    let st : Status := if i' = i.toInt ∧ m' = m.toInt ∧ g' = g.toNat ∧ d' = d.toNat ∧ u' = u.toNat ∧ r' = r.toInt then .ok else .clamped
    let p : Profile :=
      { initialStep := i'.toNat, minStep := m'.toNat, margin := g'.toNat, dwell := d'.toNat, samples := n.toNat, budget := u'.toNat
        radius := r'.toNat }
    let counts := n = 4 ∨ n = 8 ∨ n = 16 ∨ n = 32
    let t : Nat := if v.toNat < 1 then 1 else if 36000 < v.toNat then 36000 else v.toNat
    (b = 0 → counts →
      Answered (.searchParam tag b i m g d n u r) s 0x47 tag st [] { s with work := { s.work with acquire := p } })
    ∧ (b = 1 → counts →
      Answered (.searchParam tag b i m g d n u r) s 0x47 tag st [] { s with work := { s.work with track := p } })
    ∧ (1 < b.toNat ∨ ¬ counts → Answered (.searchParam tag b i m g d n u r) s 0x47 tag .range [] s)
    ∧ (b = 0 →
      Answered (.track tag b v) s 0x48 tag (if t = v.toNat then .ok else .clamped) []
        { s with tracking := { s.tracking with enabled := true }, trackTimer := { mode := .repeating, interval := t } })
    ∧ (b = 1 →
      Answered (.track tag b v) s 0x48 tag .ok []
        { s with
          tracking := { s.tracking with enabled := false }
          trackTimer := { s.trackTimer with mode := .off, elapsed := 0, elapsedMs := 0 } })
    ∧ (1 < b.toNat → Answered (.track tag b v) s 0x48 tag .range [] s)

/-- An expiry of the TRACK timer begins a new interval, or ends a ONE_SHOT, and is dropped by the first of the tests that fails: tracking
enabled, no search running, a site, the owner, the axes, the mast. One that passes them all, with a raw solution, starts a TRACK search of
the site. A timer that is OFF does not expire (R158, R159, R208; log entry
3). -/
def Obligations.TrackExpiriesAreTested : Prop :=
  ∀ (s : State), s.Calm →
    let timer : IntervalTimer :=
      { s.trackTimer with
        mode := if s.trackTimer.mode = .repeating then .repeating else .off, elapsed := 0, elapsedMs := 0 }
    let dropped (o : TrackOutcome) : Host.Outcome State Fault Refusal :=
      .next ({ s with trackTimer := timer, tracking := { s.tracking with lastExpiry := some o } }).arbitrate
    let idle := s.search.state = .idle
    let sited := ∃ n, s.tracking.site = some n ∧ (s.site? n).isSome = true
    let owned := s.pos.owner = .console ∨ (s.pos.owner = .sequence ∧ s.seq.state = .deployed)
    let stands := s.pos.pan.referenced = true ∧ s.pos.tilt.referenced = true ∧ s.pos.pan.motion = .rest ∧ s.pos.tilt.motion = .rest
    let raised := (s.mast.state = .rest ∨ s.mast.state = .topping) ∧ s.mastReady = true
    (s.trackTimer.mode = .off → exec .trackExpiry s = .next s.arbitrate)
    ∧ (s.trackTimer.mode ≠ .off →
      (s.tracking.enabled = false → exec .trackExpiry s = dropped .droppedDisabled)
      ∧ (s.tracking.enabled = true → ¬ idle → exec .trackExpiry s = dropped .droppedRunning)
      ∧ (s.tracking.enabled = true → idle → ¬ sited → exec .trackExpiry s = dropped .droppedNoSite)
      ∧ (s.tracking.enabled = true → idle → sited → ¬ owned → exec .trackExpiry s = dropped .droppedOwner)
      ∧ (s.tracking.enabled = true → idle → sited → owned → ¬ stands → exec .trackExpiry s = dropped .droppedAxes)
      ∧ (s.tracking.enabled = true → idle → sited → owned → stands → ¬ raised → exec .trackExpiry s = dropped .droppedMast)
      ∧ (s.tracking.enabled = true → idle → owned → stands → raised → ∀ n, s.tracking.site = some n → (s.site? n).isSome = true →
        ∀ raw, rawSolution (s.solveInputs n s.extension) = .ok raw →
          ∃ t, exec .trackExpiry s = .next t ∧ t.trackTimer = timer ∧ t.tracking.lastExpiry = some .started ∧ t.pos.owner = .search
            ∧ t.search.state = .measureCentre ∧ t.search.kind = some .track ∧ t.search.origin = some (.site n)
            ∧ t.search.ownerBefore = some s.pos.owner ∧ t.search.raw = some raw))

/-! ## The transmit permit -/

/-- TX_REQUEST sets or clears the request, and answers with the request, the gate state and the reasons: set, the gate goes to ON where no
condition fails and to WAIT where one does, and cleared it goes to OFF, each change raising TX_CHANGE; a request that stands already
changes nothing. A pan that in TX_ON comes into a sector that is NO_TX, or SHADOW and higher than the pivot, withdraws the permit and leaves a
TX_SECTOR violation; where the record is full already, the more flag is set and no VIOLATION raised (R40, R41, R170 to R173). The reply's bytes are laid out as log entry 9 says, and ON is coded 0, OFF 1 (log entry 33). -/
def Obligations.TxRequestFormsTheGate : Prop :=
  (∀ (s : State) (tag b : Byte), s.takesNow →
    let on := { s with gate := { request := true, state := if s.reasons.isEmpty then .on else .wait } }
    let off := { s with gate := {} }
    (b = 0 → s.Calm → s.seq.state ≠ .deployTx →
      Answered (.txRequest tag b) s 0x4C tag .ok (gateBytes on) (on.raise .txChange))
    ∧ (b = 1 → s.gate.request = true → s.gate.state ≠ .off → off.Calm → s.seq.state ≠ .deployTx →
      Answered (.txRequest tag b) s 0x4C tag .ok (gateBytes off) (off.raise .txChange))
    ∧ ((b = 0 ∧ s.gate.request = true) ∨ (b = 1 ∧ s.gate.request = false) →
      Answered (.txRequest tag b) s 0x4C tag .ok (gateBytes s) s)
    ∧ (1 < b.toNat → Answered (.txRequest tag b) s 0x4C tag .range [] s))
  ∧ ∀ (s : State) (up : Bool), ({ s with gate := {} } : State).Calm → s.gate = { request := true, state := .on } →
    let q := s.pos.pan.position + (if up then 1 else -1)
    let k := s.work.map.sectorAt q
    let x := s.work.map.effective k
    let c : Half := if up then 1 else 0xFFFF
    let full : Violation := { kind := .txSector, sector := k, pan := q, fixNumber := s.fixNumber }
    let moved : State :=
      { s with
        pos := { s.pos with pan := { s.pos.pan with position := q, movedUp := up } }, gate := { request := true, state := .wait } }
    s.pos.pan.referenced = true → s.work.map.sectorAt s.pos.pan.position ≠ k →
    x.attr = .noTx ∨ (x.attr = .shadow ∧ s.pivotHeight < x.height) →
    (s.pos.pan.motion = .rest → s.violation = none →
      exec (.axisEncoderMove .pan c) s = .next ((({ moved with violation := some full } : State).raise .txChange).raise .violation).arbitrate)
    ∧ (s.pos.pan.motion = .rest → s.violation.isSome = true →
      exec (.axisEncoderMove .pan c) s = .next (({ moved with more := true } : State).raise .txChange).arbitrate)
    ∧ ∃ t, exec (.axisEncoderMove .pan c) s = .next t ∧ t.txPermit = false ∧ t.gate = { request := true, state := .wait }
      ∧ t.pos.pan.position = q ∧ t.violation = some (s.violation.getD full) ∧ t.more = (s.more || s.violation.isSome)

/-! ## The sequences -/

/-- An accepted DEPLOY writes its record, takes positioner and mast, and enters DEPLOY_RAISE, where the mast, NESTED or in REST, sets out for the
height, up or down, or settles where it stands; or DEPLOY_HOME where an axis is unreferenced, with each such axis homing and the others left;
its height is taken down to the raise limit. It is refused RANGE, BUSY while a stage runs, TRIPPED while the
positioner action or the mast action for the situation or for raising is in force, BUSY while positioner or mast has another owner, NO_FIX,
NO_SITE, and STATE where the mast neither is NESTED nor rests or an axis moves, in that order; an option above the third is among the ranges
(log entry 12) (R179 to R182). -/
def Obligations.DeployTakesThePlantAndEntersItsFirstStage : Prop :=
  ∀ (s : State) (tag n : Byte) (height v w : Half), s.takesNow →
    let h := min height.toNat s.raiseLimit
    let i : Nat := if w.toNat < 1 then 1 else if 36000 < w.toNat then 36000 else w.toNat
    let track := v.getLsbD 2
    let status : Status := if h = height.toNat ∧ (track = true → i = w.toNat) then .ok else .clamped
    let d : DeployRec :=
      { site := n.toNat, height := h, search := v.getLsbD 0, tx := v.getLsbD 1, track := track, interval := if track then i else 0 }
    let fits := n.toNat ≤ 15 ∧ v.toNat ≤ 7 ∧ s.work.mast.clearance ≤ h
    let headed := ∃ f, s.fix = some f ∧ f.headingPresent = true
    let calmAxes := ∀ a, (s.axis a).motion = .rest ∨ (s.axis a).motion = .unref
    let homed := ∀ a, (s.axis a).referenced = true
    let stage := ¬ (s.seq.state = .idle ∨ s.seq.state = .deployed ∨ s.seq.state = .failed ∨ s.seq.state = .aborted)
    let tripped := s.positionerInForce = true ∨ s.mastInForce s.mast.situation = true ∨ s.mastInForce .raising = true
    let owned := if s.seq.state = .deployed then s.pos.owner = .sequence ∧ s.mast.owner = .sequence
      else s.pos.owner = .console ∧ s.mast.owner = .console
    let sited := (s.site? n.toNat).isSome = true
    let stands := (s.mast.state = .nested ∨ s.mast.state = .rest) ∧ calmAxes
    let refused (st : Status) : Prop := Answered (.deploy tag n height v w) s 0x50 tag st [] s
    (fits → s.Calm → ¬ stage → owned → headed → sited → stands →
      (homed → s.mast.referenced = true →
        let ext := 2 * s.mast.counter
        let tol := s.work.mast.tolerance
        let lead := s.work.mast.stopLead
        let sets (st : MastState) (up down : Bool) : Prop :=
          ∃ t, exec (.deploy tag n height v w) s = .next t ∧ Replied t 0x50 tag status []
            ∧ t.seq.deploy = some d ∧ t.seq.failure = none ∧ t.seq.state = .deployRaise ∧ t.seq.issued = true
            ∧ t.tracking.site = some n.toNat ∧ t.pos.owner = .sequence ∧ t.mast.owner = .sequence ∧ t.mast.origin = .sequence
            ∧ t.mast.target = h ∧ t.mast.nudges = 0 ∧ t.mast.state = st ∧ t.mast.compressor = up ∧ t.mast.vent = down
        (ext + tol < h → s.mast.counter < (h - lead) / 2 → sets .raising true false)
        ∧ (ext ≤ h + tol → h ≤ ext + tol → sets .settling false false)
        ∧ (h + tol < ext → 0 < h → (h + lead) / 2 < s.mast.counter → sets .lowering false true))
      ∧ (¬ homed → (∀ a, (s.axis a).referenced = false → (s.axis a).motion = .unref) →
        ∃ t, exec (.deploy tag n height v w) s = .next t ∧ Replied t 0x50 tag status []
          ∧ t.seq.deploy = some d ∧ t.seq.failure = none ∧ t.seq.state = .deployHome
          ∧ t.tracking.site = some n.toNat ∧ t.pos.owner = .sequence ∧ t.mast = { s.mast with owner := .sequence }
          ∧ ∀ a, (t.seq.awaits.has a = !(s.axis a).referenced)
            ∧ (t.axis a).motion = (if (s.axis a).referenced then (s.axis a).motion else .homing)
              ∧ (t.axis a).slot = (if s.seq.state = .deployed then (s.axis a).slot else none)))
    ∧ (¬ fits → refused .range)
    ∧ (fits → stage → refused .busy)
    ∧ (fits → ¬ stage → tripped → refused .tripped)
    ∧ (fits → ¬ stage → ¬ tripped → ¬ owned → refused .busy)
    ∧ (fits → ¬ stage → ¬ tripped → owned → ¬ headed → refused .noFix)
    ∧ (fits → ¬ stage → ¬ tripped → owned → headed → ¬ sited → refused .noSite)
    ∧ (fits → ¬ stage → ¬ tripped → owned → headed → sited → ¬ stands → refused .state)

/-- The stages follow one another. The last homing to end ARRIVED takes DEPLOY_HOME to DEPLOY_RAISE. DEPLOY_RAISE issues its MAST_TO and
DEPLOY_SEARCH its SEARCH once the plant stands, each once; a mast that ends REACHED takes DEPLOY_RAISE to DEPLOY_AIM, which aims all three
axes; the last of its axes to arrive takes the deploy to its search; that axis, or a search that ends CONVERGED or BUDGET_SPENT, takes it to
DEPLOY_TX, which sets the request and waits 5 s for the permit, or to DEPLOYED, with tracking where it was asked for; the permit takes
DEPLOY_TX to DEPLOYED (R176, R181 to R186). An axis that ends STOPPED, a mast that ends HEIGHT_OFF or STOPPED, a search that ends
BEACON_ABSENT, SATURATED or ABORTED, and a TX_REQUEST OFF in DEPLOY_TX (TX_WITHDRAWN), fail the sequence with that cause (R181 to R185, R187, R189). A transmit wait that ends fails the sequence TX_TIMEOUT: the request is cleared, the axes in motion
settle toward STOPPED, and all goes back to the console (R187). The last axis of STOW_POSITIONER takes the stow to STOW_MAST, which lowers the
mast, or ends it where the mast is nested; a mast that comes to its nest ends it in IDLE, with all back at the console (R189). A trip that takes the positioner or the mast ends a running sequence FAILED, TRIPPED at its stage, its
search TRIPPED with it; the request is kept, what the trip has taken is the trip's, and the rest goes back to the console (R187); the clauses
use a HOLD and a mast-at-rest LOWER of WIND. An issue
event in another stage, and a transmit wait that ends in one, change nothing (log entry 3). An unreferenced axis that is stopped takes the
count it stands at as its target (log entry 35), and a mast that ends STOPPED its extension, also above the raise limit (log entry 36). OFF is
coded 1 (log entry 33), and the reply to TX_REQUEST laid out as log entry 9 says. -/
def Obligations.SequenceStagesFollowOneAnother : Prop :=
  (∀ (s : State), ∀ d, s.seq.deploy = some d →
    (s.Calm → s.seq.state = .deployRaise → s.seq.issued = false → s.mast.owner = .sequence →
        s.mast.state = .nested ∨ s.mast.state = .rest ∨ s.mast.state = .topping → s.mast.referenced = true →
        s.extension + s.work.mast.tolerance < min d.height s.raiseLimit →
        s.mast.counter < (min d.height s.raiseLimit - s.work.mast.stopLead) / 2 →
      exec .deployRaiseIssue s
        = .next ({ s with
            seq := { s.seq with issued := true }
            mast := { s.mast with
              target := min d.height s.raiseLimit, nudges := 0, origin := .sequence
              stopCount := (min d.height s.raiseLimit - s.work.mast.stopLead) / 2, leadInUse := s.work.mast.stopLead
              state := .raising, compressor := true, vent := false, settleTimer := none, stallTimer := some 3000
              progress := 0 } } : State).arbitrate)
    ∧ (s.Calm → s.seq.state ≠ .deployRaise ∨ s.seq.issued = true → exec .deployRaiseIssue s = .next s.arbitrate)
    ∧ (∀ a, s.Calm → s.seq.state = .deployHome → (∀ b, s.seq.awaits.has b = decide (b = a)) → s.mast.owner = .sequence →
        (s.axis a).motion = .settling → (s.axis a).settleTimer.isSome = true → (s.axis a).origin = .sequence →
        (s.axis a).ending = .arrived → (s.axis a).referenced = true → (s.axis a).slot = none →
      let u := s.setAxis a { s.axis a with motion := .rest, lastArrival := some .arrived, settleTimer := none, stallTimer := none }
      (s.mast.state ≠ .nested → s.mast.state ≠ .rest → s.mast.state ≠ .topping →
        exec (.axisSettleDone a) s
          = .next (({ u with seq := { s.seq with state := .deployRaise, awaits := {}, issued := false } } : State).raise
            .sequence).arbitrate)
      ∧ (s.mast.state = .nested ∨ s.mast.state = .rest ∨ s.mast.state = .topping → s.mast.referenced = true →
          s.extension + s.work.mast.tolerance < min d.height s.raiseLimit →
          s.mast.counter < (min d.height s.raiseLimit - s.work.mast.stopLead) / 2 →
        ∃ t, exec (.axisSettleDone a) s = .next t ∧ t.seq = { s.seq with state := .deployRaise, awaits := {}, issued := true }
          ∧ t.pos = u.pos ∧ t.mast.target = min d.height s.raiseLimit ∧ t.mast.origin = .sequence ∧ t.mast.owner = .sequence
          ∧ t.mast.state = .raising ∧ t.mast.compressor = true ∧ t.mast.vent = false))
    ∧ (s.Calm → s.seq.state = .deploySearch → s.seq.issued = false → s.pos.owner = .sequence → s.mast.state = .rest →
        s.pos.pan.motion = .rest → s.pos.tilt.motion = .rest → s.pos.pan.referenced = true → s.pos.tilt.referenced = true →
        s.mastReady = true → (s.site? d.site).isSome = true →
      ∀ raw, rawSolution (s.solveInputs d.site s.extension) = .ok raw →
        ∃ t, exec .deploySearchIssue s = .next t ∧ t.seq = { s.seq with issued := true } ∧ t.pos.owner = .search
          ∧ t.search.state = .measureCentre ∧ t.search.kind = some .acquire ∧ t.search.origin = some (.site d.site)
          ∧ t.search.ownerBefore = some .sequence ∧ t.search.raw = some raw)
    ∧ (s.Calm → s.seq.state ≠ .deploySearch ∨ s.seq.issued = true → exec .deploySearchIssue s = .next s.arbitrate)
    ∧ (s.Calm → s.seq.state = .deployRaise → s.seq.issued = true → s.mast.state = .settling → s.mast.settleKind = .afterMove →
        s.mast.origin = .sequence → s.mast.owner = .sequence → s.pos.owner = .sequence → s.lines.nest.level = false →
        s.extension ≤ s.mast.target + s.work.mast.tolerance → s.mast.target ≤ s.extension + s.work.mast.tolerance →
        s.mast.target ≤ s.extension + s.work.mast.sagAllowance → s.mastReady = true → (∀ a, (s.axis a).referenced = true) → d.site ≤ 15 →
      let q := solve (s.solveInputs d.site s.extension)
      q.status = .valid → q.hasPreferred = true →
        ∃ t, exec .mastSettleDone s = .next t
          ∧ t.seq = { s.seq with state := .deployAim, awaits := { pan := true, tilt := true, pol := true }, issued := false }
          ∧ t.mast = { s.mast with
              state := .rest, compressor := false, vent := false, settleTimer := none, stallTimer := none, outcome := some .reached }
          ∧ t.solution = q ∧ t.tracking.site = some d.site
          ∧ t.pos.pan = moveTo .pan (s.axisSettings .pan).slewClass q.panTarget .sequence { s.pos.pan with slot := none }
          ∧ t.pos.tilt = moveTo .tilt (s.axisSettings .tilt).slewClass q.tiltTarget .sequence { s.pos.tilt with slot := none }
          ∧ t.pos.pol = moveTo .pol (s.axisSettings .pol).slewClass q.polTarget .sequence { s.pos.pol with slot := none })
    ∧ (∀ a, s.Calm → s.seq.state = .deployAim → (∀ b, s.seq.awaits.has b = decide (b = a)) → s.pos.owner = .sequence →
        (s.axis a).motion = .settling → (s.axis a).settleTimer.isSome = true → (s.axis a).origin = .sequence →
        (s.axis a).ending = .arrived → (∀ b, (s.axis b).referenced = true ∧ (s.axis b).slot = none) → (∀ b, b ≠ a → (s.axis b).motion = .rest) →
        s.mast.state = .rest → s.mastReady = true → (s.site? d.site).isSome = true →
      (d.search = true → ∀ raw, rawSolution (s.solveInputs d.site s.extension) = .ok raw →
        ∃ t, exec (.axisSettleDone a) s = .next t ∧ t.seq.state = .deploySearch ∧ t.seq.issued = true ∧ t.pos.owner = .search
          ∧ t.search.state = .measureCentre ∧ t.search.raw = some raw)
      ∧ (d.search = false → d.tx = true →
        ∃ t, exec (.axisSettleDone a) s = .next t ∧ t.gate.request = true
          ∧ (if t.reasons.isEmpty then t.seq.state = .deployed ∧ t.seq.txWait = none ∧ t.gate.state = .on
             else t.seq.state = .deployTx ∧ t.seq.txWait = some 50 ∧ t.gate.state = .wait))
      ∧ (d.search = false → d.tx = false →
        ∃ t, exec (.axisSettleDone a) s = .next t ∧ t.seq.state = .deployed ∧ t.seq.awaits = {} ∧ t.gate = s.gate
          ∧ (d.track = true → t.tracking.enabled = true ∧ t.trackTimer = { mode := .repeating, interval := d.interval })))
    ∧ (({ s with gate := {} } : State).Calm → s.gate = { request := true, state := .wait } → s.seq.state = .deployTx →
        s.lines.tiltStow.raw = false → s.lines.tiltStow.level = true → s.pos.tilt.motion = .rest →
        ({ s with lines := { s.lines with tiltStow := {} } } : State).reasons.isEmpty = true →
      ∃ t, exec (.debounceExpiry .tiltStow) s = .next t ∧ t.txPermit = true ∧ t.seq.state = .deployed ∧ t.seq.txWait = none
        ∧ (d.track = true → t.tracking.enabled = true ∧ t.trackTimer = { mode := .repeating, interval := d.interval }))
    ∧ (({ s with gate := {} } : State).Calm → s.gate.request = true → s.seq.state = .deployTx → s.seq.txWait.isSome = true →
        s.pos.owner = .sequence → s.mast.owner = .sequence → s.mast.state = .rest →
      ∃ t, exec .txWaitTimeout s = .next t ∧ t.gate.request = false ∧ t.gate.state = .off
        ∧ t.seq.state = .failed ∧ t.seq.failure = some { stage := .deployTx, cause := .txTimeout } ∧ t.seq.txWait = none
        ∧ t.pos.owner = .console ∧ t.mast.owner = .console
        ∧ ∀ a, (t.axis a).position = (s.axis a).position
          ∧ (if (s.axis a).motion = .slewing ∨ (s.axis a).motion = .settling ∨ (s.axis a).motion = .jogging ∨ (s.axis a).motion = .homing then
              (t.axis a).motion = .settling ∧ (t.axis a).ending = .stopped ∧ (t.axis a).target = (s.axis a).position
             else t.axis a = s.axis a))
    ∧ (s.seq.state ≠ .deployTx → exec .txWaitTimeout s = .next s.arbitrate)
    ∧ (∀ a b f, (a = .pan ∧ b = .tilt) ∨ (a = .tilt ∧ b = .pan) → s.Calm → s.seq.state = .deploySearch →
        s.search.state = .finishing → s.search.measuring = .moving → s.search.final = some f → f = .converged ∨ f = .budgetSpent →
        s.pos.owner = .search → s.search.ownerBefore = some .sequence → (s.axis a).motion = .settling →
        (s.axis a).settleTimer.isSome = true → (s.axis a).origin = .search → (s.axis a).ending = .arrived →
        (s.axis a).referenced = true → (s.axis a).slot = none → (s.axis b).motion = .rest →
      ∃ t, exec (.axisSettleDone a) s = .next t ∧ t.search.state = .idle ∧ t.search.final = some f ∧ t.pos.owner = .sequence
        ∧ (d.tx = true → t.gate.request = true
          ∧ (if t.reasons.isEmpty then t.seq.state = .deployed ∧ t.seq.txWait = none ∧ t.gate.state = .on
             else t.seq.state = .deployTx ∧ t.seq.txWait = some 50 ∧ t.gate.state = .wait))
        ∧ (d.tx = false → t.seq.state = .deployed ∧ t.gate = s.gate
          ∧ (d.track = true → t.tracking.enabled = true ∧ t.trackTimer = { mode := .repeating, interval := d.interval }))))
  ∧ (∀ (s : State) (tag : Byte) (n : BitVec 12), s.mast.owner = .sequence →
    let failed (t : State) (c : Cause) : Prop :=
      t.seq = { s.seq with
          state := .failed, failure := some { stage := s.seq.state, cause := c }, awaits := {}, issued := false
          txWait := none, txWaitMs := 0 }
        ∧ t.pos.owner = .console ∧ t.mast.owner = .console ∧ ∀ a, (t.axis a).position = (s.axis a).position
    let stood (t : State) (a : Axis) : Prop :=
      if (s.axis a).motion = .slewing ∨ (s.axis a).motion = .settling ∨ (s.axis a).motion = .jogging ∨ (s.axis a).motion = .homing then
        (t.axis a).motion = .settling ∧ (t.axis a).ending = .stopped ∧ (t.axis a).target = (s.axis a).position
      else t.axis a = s.axis a
    let ext := 2 * s.mast.counter
    let near := ext ≤ s.mast.target + s.work.mast.tolerance ∧ s.mast.target ≤ ext + s.work.mast.tolerance
    let searches := s.seq.state = .deploySearch ∧ s.pos.owner = .search ∧ s.search.ownerBefore = some .sequence
    (∀ a, s.Calm → s.pos.owner = .sequence → s.seq.state = .deployHome ∨ s.seq.state = .deployAim ∨ s.seq.state = .stowPositioner →
        s.seq.awaits.has a = true → (s.axis a).motion = .settling → (s.axis a).settleTimer.isSome = true →
        (s.axis a).origin = .sequence → (s.axis a).ending = .stopped →
        (s.axis a).slot = none ∨ (s.axisSettings a).moment ≠ .atRest ∨ (s.axis a).referenced = false →
      ∃ t, exec (.axisSettleDone a) s = .next t ∧ failed t .stopped ∧ (t.axis a).lastArrival = some .stopped
        ∧ (t.axis a).motion = (if (s.axis a).referenced then .rest else .unref) ∧ ∀ b, b ≠ a → stood t b)
    ∧ (s.Calm → s.pos.owner = .sequence → s.seq.state = .deployRaise → s.seq.issued = true → s.mast.state = .settling →
        s.mast.origin = .sequence →
      (s.mast.settleKind = .afterMove → ¬ near → 2 ≤ s.mast.nudges → s.mast.target ≤ ext + s.work.mast.sagAllowance →
        ∃ t, exec .mastSettleDone s = .next t ∧ failed t .heightOff ∧ t.mast.outcome = some .heightOff ∧ t.mast.target = s.mast.target
          ∧ t.mast.compressor = false ∧ t.mast.vent = false ∧ ∀ a, stood t a)
      ∧ (s.mast.settleKind = .afterStop .stopped →
        ∃ t, exec .mastSettleDone s = .next t ∧ failed t .stopped ∧ t.mast.outcome = some .stopped ∧ t.mast.target = ext
          ∧ t.mast.compressor = false ∧ t.mast.vent = false ∧ ∀ a, stood t a))
    ∧ (s.Calm → searches → s.search.state = .measureCentre → ∀ counts, s.search.measuring = .sampling counts →
        s.search.profile.samples ≤ counts.length + 1 →
      let saturated := ∃ c ∈ counts ++ [n.toNat], s.sense.levelCeiling ≤ c
      (saturated →
        ∃ t, exec (.conversion .level n) s = .next t ∧ failed t .saturated ∧ t.search.state = .idle ∧ t.search.final = some .saturated)
      ∧ (¬ saturated → (counts ++ [n.toNat]).sum / (counts.length + 1) < s.sense.levelFloor →
        ∃ t, exec (.conversion .level n) s = .next t ∧ failed t .beaconAbsent ∧ t.search.state = .idle
          ∧ t.search.final = some .beaconAbsent))
    ∧ (s.takesNow → s.Calm → searches → s.search.state ≠ .idle →
      ∃ t, exec (.searchAbort tag) s = .next t ∧ Replied t 0x45 tag .ok [] ∧ failed t .aborted ∧ t.search.state = .idle
        ∧ t.search.final = some .aborted)
    ∧ (s.takesNow → ({ s with gate := {} } : State).Calm → s.seq.state = .deployTx → s.pos.owner = .sequence →
        s.gate.request = true → s.gate.state ≠ .off →
      ∃ t, exec (.txRequest tag 1) s = .next t ∧ Replied t 0x4C tag .ok (gateBytes t) ∧ failed t .txWithdrawn ∧ t.gate = {}
        ∧ ∀ a, stood t a))
  ∧ (∀ (s : State), s.Calm →
    (∀ a, s.seq.state = .stowPositioner → (∀ b, s.seq.awaits.has b = decide (b = a)) → (s.axis a).motion = .settling →
        (s.axis a).settleTimer.isSome = true → (s.axis a).origin = .sequence → (s.axis a).ending = .arrived →
        (s.axis a).referenced = true → (s.axis a).slot = none → s.pos.owner = .sequence → s.mast.owner = .sequence →
      (s.mast.state = .rest → s.windowClosed = true → s.lines.nest.level = false →
        ∃ t, exec (.axisSettleDone a) s = .next t ∧ t.seq.state = .stowMast ∧ t.mast.state = .lowering ∧ t.mast.target = 0
          ∧ t.mast.vent = true ∧ t.mast.origin = .sequence ∧ (t.axis a).motion = .rest ∧ (t.axis a).lastArrival = some .arrived)
      ∧ (s.mast.state = .nested →
        ∃ t, exec (.axisSettleDone a) s = .next t ∧ t.seq.state = .idle ∧ t.pos.owner = .console ∧ t.mast.owner = .console
          ∧ t.mast.state = .nested))
    ∧ (s.seq.state = .stowMast → s.mast.state = .lowering → s.mast.target = 0 → s.mast.origin = .sequence → s.mast.owner = .sequence →
        s.pos.owner = .sequence → s.lines.nest.raw = true → s.lines.nest.level = false →
      ∃ t, exec (.debounceExpiry .nest) s = .next t ∧ t.seq.state = .idle ∧ t.mast.state = .nested ∧ t.mast.outcome = some .reached
        ∧ t.mast.counter = 0 ∧ t.mast.vent = false ∧ t.pos.owner = .console ∧ t.mast.owner = .console))
  ∧ ∀ (s : State), ({ s with gate := {} } : State).Calm → s.gate.state = s.gateVerdict → s.sense.gust = 1 → s.work.sense.windLimit ≠ 0 →
    s.trips.wind.state = .clear → s.trips.wind.cause = false → s.trips.wind.config.enabled = true →
    ¬ (s.seq.state = .idle ∨ s.seq.state = .failed ∨ s.seq.state = .aborted) →
    (s.search.state = .idle ∧ s.pos.owner = .sequence)
      ∨ (s.search.state ≠ .idle ∧ s.pos.owner = .search ∧ s.search.ownerBefore = some .sequence) →
    let act := s.trips.wind.config.action
    let failed (t : State) : Prop :=
      t.seq = { s.seq with
          state := .failed, failure := some { stage := s.seq.state, cause := .tripped }, awaits := {}, issued := false
          txWait := none, txWaitMs := 0 }
        ∧ t.gate.request = s.gate.request ∧ t.search.state = .idle ∧ (s.search.state ≠ .idle → t.search.final = some .tripped)
        ∧ (∀ a, (t.axis a).position = (s.axis a).position)
        ∧ (s.link.sending.isSome = true → inKinds t.notices.pending .sequence = true ∧ inKinds t.notices.pending .trip = true)
    (act.positioner = .hold →
      ∃ t, exec (.anemometerPulse 2000) s = .next t ∧ failed t ∧ t.pos.owner = .trip ∧ t.mast.owner ≠ .sequence
        ∧ ∀ a, (t.axis a).motion = .held)
    ∧ (act.positioner = .noAction → act.rest = .lower → act.lowering = .goOn → s.mast.state = .rest → s.lines.nest.level = false →
        s.mast.owner ≠ .trip →
      ∃ t, exec (.anemometerPulse 2000) s = .next t ∧ failed t ∧ t.pos.owner = .console ∧ t.mast.owner = .trip
        ∧ t.mast.target = 0 ∧ (t.mast.state = .lowering ∨ t.mast.state = .clearWait)
        ∧ ∀ a, (if (s.axis a).motion = .slewing ∨ (s.axis a).motion = .settling ∨ (s.axis a).motion = .jogging
                ∨ (s.axis a).motion = .homing then
              (t.axis a).motion = .settling ∧ (t.axis a).ending = .stopped
             else (t.axis a).motion = (s.axis a).motion))

/-- STOW_ALL, from a plant that stands, takes positioner and mast, clears the request, also one that stands on air, and the tracking, and enters
STOW_POSITIONER with pan and tilt on their way to the stow; it is refused TRIPPED while the positioner action or the mast action for the situation is in force, and BUSY while a
stow runs or a trip owns the positioner or the mast. HALT is accepted always, on air and under
a trip too: a running search and a running sequence end, the slots are emptied, no axis and no count moves, the request is kept, and an
axis that a trip holds stays HELD. Where no trip acts, a running sequence ends ABORTED, axes and mast stop where they are, and all goes
back to the console (R188 to R190). A mast that settles counts as moving (log entry 22). -/
def Obligations.StowAllAndHaltTakeThePlant : Prop :=
  ∀ (s : State) (tag : Byte), s.takesNow →
    let quiet := ({ s with gate := {} } : State).Calm
    let running := ¬ (s.seq.state = .idle ∨ s.seq.state = .failed ∨ s.seq.state = .aborted)
    let stood (x : AxisRec) : Motion :=
      if x.motion = .slewing ∨ x.motion = .settling ∨ x.motion = .jogging ∨ x.motion = .homing then .settling else x.motion
    let moves := s.mast.state = .raising ∨ s.mast.state = .lowering ∨ s.mast.state = .nudging ∨ s.mast.state = .topping
      ∨ s.mast.state = .clearWait ∨ s.mast.state = .settling
    (quiet → ¬ running → s.search.state = .idle → s.pos.owner = .console → s.mast.owner = .console →
        (∀ a, (s.axis a).referenced = true ∧ (s.axis a).motion = .rest) → s.work.map.firstBlocked s.pos.pan.position 0 = none →
      ∃ t, exec (.stowAll tag) s = .next t ∧ Replied t 0x51 tag .ok []
        ∧ t.seq.state = .stowPositioner ∧ t.seq.failure = none ∧ t.seq.awaits = { pan := true, tilt := true, pol := false }
        ∧ t.gate = {} ∧ t.tracking.enabled = false ∧ t.trackTimer.mode = .off ∧ t.pos.owner = .sequence ∧ t.mast.owner = .sequence
        ∧ t.pos.pan = moveTo .pan (s.axisSettings .pan).slewClass 0 .sequence { s.pos.pan with slot := none }
        ∧ t.pos.tilt = moveTo .tilt (s.axisSettings .tilt).slewClass (-1000) .sequence { s.pos.tilt with slot := none })
    ∧ (s.positionerInForce = true ∨ s.mastInForce s.mast.situation = true → Answered (.stowAll tag) s 0x51 tag .tripped [] s)
    ∧ (s.positionerInForce = false → s.mastInForce s.mast.situation = false →
        s.seq.state = .stowPositioner ∨ s.seq.state = .stowMast ∨ s.pos.owner = .trip ∨ s.mast.owner = .trip →
      Answered (.stowAll tag) s 0x51 tag .busy [] s)
    ∧ ∃ t, exec (.halt tag) s = .next t ∧ Replied t 0x52 tag .ok []
        ∧ t.seq.state = (if running then .aborted else s.seq.state) ∧ t.search.state = .idle
        ∧ t.gate.request = s.gate.request ∧ t.mast.counter = s.mast.counter ∧ t.trips = s.trips
        ∧ (∀ a, (t.axis a).slot = none ∧ (t.axis a).position = (s.axis a).position)
        ∧ (s.action.positioner = .hold → s.pos.enacted = .hold → ∀ a, (s.axis a).motion = .held → (t.axis a).motion = .held)
        ∧ (quiet →
          t.pos.owner = .console ∧ t.mast.owner = .console ∧ (∀ a, (t.axis a).motion = stood (s.axis a))
          ∧ t.mast.state = (if moves then .settling else s.mast.state)
          ∧ (moves → t.mast.compressor = false ∨ s.mast.state = .settling))

/-! ## Notices and interval timers -/

/-- NOTICE_MASK, HUSH, UNHUSH and PENDING_CLEAR change the notices alone, and answer with the hush flag and the three sets. NOTICE_MASK
replaces the masks, or under hush the saved masks; HUSH saves the masks and masks all, UNHUSH brings them back, and each repeated does
nothing; PENDING_CLEAR clears the named pending flags. A set with a bit above the eighth is refused RANGE (R205 to R207). The
reply's bytes are laid out as log entry 9 says; that a NOTICE_MASK with hush off leaves the saved masks is log entry 43. -/
def Obligations.NoticeRequestsChangeTheNoticesAlone : Prop :=
  ∀ (s : State) (tag : Byte) (v : Half), s.takesNow →
    let x := s.notices
    let set : BitVec 8 := v.setWidth 8
    let told (n : Notices) : List Byte :=
      [if n.hush then 1 else 0] ++ [0, n.masks] ++ [0, n.savedMasks] ++ [0, n.pending]
    let hushed : Notices := { x with savedMasks := x.masks, masks := 0xFF, hush := true }
    let back : Notices := { x with masks := x.savedMasks, hush := false }
    (v.toNat ≤ 255 → x.hush = false →
      Answered (.noticeMask tag v) s 0x58 tag .ok (told { x with masks := set }) { s with notices := { x with masks := set } })
    ∧ (v.toNat ≤ 255 → x.hush = true →
      Answered (.noticeMask tag v) s 0x58 tag .ok (told { x with savedMasks := set }) { s with notices := { x with savedMasks := set } })
    ∧ (x.hush = false → Answered (.hush tag) s 0x59 tag .ok (told hushed) { s with notices := hushed })
    ∧ (x.hush = true → Answered (.hush tag) s 0x59 tag .ok (told x) s)
    ∧ (x.hush = true → Answered (.unhush tag) s 0x5A tag .ok (told back) { s with notices := back })
    ∧ (x.hush = false → Answered (.unhush tag) s 0x5A tag .ok (told x) s)
    ∧ (v.toNat ≤ 255 →
      Answered (.pendingClear tag v) s 0x5B tag .ok (told { x with pending := x.pending &&& ~~~set })
        { s with notices := { x with pending := x.pending &&& ~~~set } })
    ∧ (255 < v.toNat →
      Answered (.noticeMask tag v) s 0x58 tag .range [] s ∧ Answered (.pendingClear tag v) s 0x5B tag .range [] s)

/-- TIMER_SET writes an interval timer's mode and its interval, clamped to 1 to 36,000, and sets its elapsed time to 0; TIMER_READ answers
them and changes nothing; an expiry of the REPORT timer raises REPORT, begins a new interval of a REPEATING timer and ends a ONE_SHOT
(R208 to R210). TIMER_READ's bytes are laid out as log entry 9 says; an expiry of a timer that is OFF changes nothing (log entry 3). -/
def Obligations.IntervalTimersAreSetReadAndExpire : Prop :=
  ∀ (s : State) (tag b m : Byte) (v : Half),
    let i : Nat := if v.toNat < 1 then 1 else if 36000 < v.toNat then 36000 else v.toNat
    let st : Status := if i = v.toNat then .ok else .clamped
    let mode : TimerMode := if m = 0 then .off else if m = 1 then .oneShot else .repeating
    let t : IntervalTimer := { mode := mode, interval := i }
    let told (x : IntervalTimer) : List Byte :=
      [if x.mode = .off then 0 else if x.mode = .oneShot then 1 else 2] ++ unsignedHalf x.interval ++ unsignedHalf x.elapsed
    (s.takesNow → m.toNat ≤ 2 → b = 0 → Answered (.timerSet tag b m v) s 0x5C tag st [] { s with report := t })
    ∧ (s.takesNow → m.toNat ≤ 2 → b = 1 → Answered (.timerSet tag b m v) s 0x5C tag st [] { s with trackTimer := t })
    ∧ (s.takesNow → 2 < m.toNat ∨ 1 < b.toNat → Answered (.timerSet tag b m v) s 0x5C tag .range [] s)
    ∧ (s.takesNow → b = 0 → Answered (.timerRead tag b) s 0x5D tag .ok (told s.report) s)
    ∧ (s.takesNow → b = 1 → Answered (.timerRead tag b) s 0x5D tag .ok (told s.trackTimer) s)
    ∧ (s.takesNow → 1 < b.toNat → Answered (.timerRead tag b) s 0x5D tag .range [] s)
    ∧ (s.report.mode = .off → exec .reportExpiry s = .next s.arbitrate)
    ∧ (s.report.mode = .oneShot →
      exec .reportExpiry s
        = .next (({ s with report := { s.report with mode := .off, elapsed := 0, elapsedMs := 0 } } : State).raise .report).arbitrate)
    ∧ (s.report.mode = .repeating →
      exec .reportExpiry s
        = .next (({ s with report := { s.report with elapsed := 0, elapsedMs := 0 } } : State).raise .report).arbitrate)

end Slice0Obligations
end

