-- ==== Sys2Proof/Laws/State.lean ====
section
/-! SUPPORT. What each update of the state leaves and what it writes, field by field: every lemma is true by unfolding, so that no later
proof unfolds a record update. -/

namespace Sys2Proof.Machine

open Sys2Proof

/-! ## A raise (R204) -/

@[simp] theorem State.raise_pending (s : State) (k : Notice) : (s.raise k).pending = s.pending := rfl
@[simp] theorem State.raise_work (s : State) (k : Notice) : (s.raise k).work = s.work := rfl
@[simp] theorem State.raise_sites (s : State) (k : Notice) : (s.raise k).sites = s.sites := rfl
@[simp] theorem State.raise_fix (s : State) (k : Notice) : (s.raise k).fix = s.fix := rfl
@[simp] theorem State.raise_fixNumber (s : State) (k : Notice) : (s.raise k).fixNumber = s.fixNumber := rfl
@[simp] theorem State.raise_solution (s : State) (k : Notice) : (s.raise k).solution = s.solution := rfl
@[simp] theorem State.raise_lock (s : State) (k : Notice) : (s.raise k).lock = s.lock := rfl
@[simp] theorem State.raise_violation (s : State) (k : Notice) : (s.raise k).violation = s.violation := rfl
@[simp] theorem State.raise_more (s : State) (k : Notice) : (s.raise k).more = s.more := rfl
@[simp] theorem State.raise_pos (s : State) (k : Notice) : (s.raise k).pos = s.pos := rfl
@[simp] theorem State.raise_mast (s : State) (k : Notice) : (s.raise k).mast = s.mast := rfl
@[simp] theorem State.raise_sense (s : State) (k : Notice) : (s.raise k).sense = s.sense := rfl
@[simp] theorem State.raise_lines (s : State) (k : Notice) : (s.raise k).lines = s.lines := rfl
@[simp] theorem State.raise_trips (s : State) (k : Notice) : (s.raise k).trips = s.trips := rfl
@[simp] theorem State.raise_search (s : State) (k : Notice) : (s.raise k).search = s.search := rfl
@[simp] theorem State.raise_tracking (s : State) (k : Notice) : (s.raise k).tracking = s.tracking := rfl
@[simp] theorem State.raise_gate (s : State) (k : Notice) : (s.raise k).gate = s.gate := rfl
@[simp] theorem State.raise_seq (s : State) (k : Notice) : (s.raise k).seq = s.seq := rfl
@[simp] theorem State.raise_link (s : State) (k : Notice) : (s.raise k).link = s.link := rfl
@[simp] theorem State.raise_report (s : State) (k : Notice) : (s.raise k).report = s.report := rfl
@[simp] theorem State.raise_trackTimer (s : State) (k : Notice) : (s.raise k).trackTimer = s.trackTimer := rfl
@[simp] theorem State.raise_store (s : State) (k : Notice) : (s.raise k).store = s.store := rfl

/-- A raise sets its pending flag and nothing else of the notices (R204). -/
theorem State.raise_notices (s : State) (k : Notice) :
    (s.raise k).notices = { s.notices with pending := s.notices.pending ||| k.bit } := rfl

/-! ## A record of an axis (R51) -/

@[simp] theorem State.setAxis_pending (s : State) (a : Axis) (x : AxisRec) : (s.setAxis a x).pending = s.pending := rfl
@[simp] theorem State.setAxis_work (s : State) (a : Axis) (x : AxisRec) : (s.setAxis a x).work = s.work := rfl
@[simp] theorem State.setAxis_sites (s : State) (a : Axis) (x : AxisRec) : (s.setAxis a x).sites = s.sites := rfl
@[simp] theorem State.setAxis_fix (s : State) (a : Axis) (x : AxisRec) : (s.setAxis a x).fix = s.fix := rfl
@[simp] theorem State.setAxis_fixNumber (s : State) (a : Axis) (x : AxisRec) : (s.setAxis a x).fixNumber = s.fixNumber := rfl
@[simp] theorem State.setAxis_solution (s : State) (a : Axis) (x : AxisRec) : (s.setAxis a x).solution = s.solution := rfl
@[simp] theorem State.setAxis_lock (s : State) (a : Axis) (x : AxisRec) : (s.setAxis a x).lock = s.lock := rfl
@[simp] theorem State.setAxis_violation (s : State) (a : Axis) (x : AxisRec) : (s.setAxis a x).violation = s.violation := rfl
@[simp] theorem State.setAxis_more (s : State) (a : Axis) (x : AxisRec) : (s.setAxis a x).more = s.more := rfl
@[simp] theorem State.setAxis_mast (s : State) (a : Axis) (x : AxisRec) : (s.setAxis a x).mast = s.mast := rfl
@[simp] theorem State.setAxis_sense (s : State) (a : Axis) (x : AxisRec) : (s.setAxis a x).sense = s.sense := rfl
@[simp] theorem State.setAxis_lines (s : State) (a : Axis) (x : AxisRec) : (s.setAxis a x).lines = s.lines := rfl
@[simp] theorem State.setAxis_trips (s : State) (a : Axis) (x : AxisRec) : (s.setAxis a x).trips = s.trips := rfl
@[simp] theorem State.setAxis_search (s : State) (a : Axis) (x : AxisRec) : (s.setAxis a x).search = s.search := rfl
@[simp] theorem State.setAxis_tracking (s : State) (a : Axis) (x : AxisRec) : (s.setAxis a x).tracking = s.tracking := rfl
@[simp] theorem State.setAxis_gate (s : State) (a : Axis) (x : AxisRec) : (s.setAxis a x).gate = s.gate := rfl
@[simp] theorem State.setAxis_seq (s : State) (a : Axis) (x : AxisRec) : (s.setAxis a x).seq = s.seq := rfl
@[simp] theorem State.setAxis_link (s : State) (a : Axis) (x : AxisRec) : (s.setAxis a x).link = s.link := rfl
@[simp] theorem State.setAxis_notices (s : State) (a : Axis) (x : AxisRec) : (s.setAxis a x).notices = s.notices := rfl
@[simp] theorem State.setAxis_report (s : State) (a : Axis) (x : AxisRec) : (s.setAxis a x).report = s.report := rfl
@[simp] theorem State.setAxis_trackTimer (s : State) (a : Axis) (x : AxisRec) : (s.setAxis a x).trackTimer = s.trackTimer := rfl
@[simp] theorem State.setAxis_store (s : State) (a : Axis) (x : AxisRec) : (s.setAxis a x).store = s.store := rfl

@[simp] theorem State.setAxis_pos (s : State) (a : Axis) (x : AxisRec) : (s.setAxis a x).pos = s.pos.setAxis a x := rfl

@[simp] theorem Positioner.setAxis_owner (p : Positioner) (a : Axis) (x : AxisRec) : (p.setAxis a x).owner = p.owner := by cases a <;> rfl
@[simp] theorem Positioner.setAxis_enacted (p : Positioner) (a : Axis) (x : AxisRec) : (p.setAxis a x).enacted = p.enacted := by
  cases a <;> rfl
@[simp] theorem Positioner.setAxis_stowUnrun (p : Positioner) (a : Axis) (x : AxisRec) : (p.setAxis a x).stowUnrun = p.stowUnrun := by
  cases a <;> rfl
@[simp] theorem Positioner.setAxis_stowAwaits (p : Positioner) (a : Axis) (x : AxisRec) :
    (p.setAxis a x).stowAwaits = p.stowAwaits := by cases a <;> rfl

/-- An axis reads what was written to it. -/
@[simp] theorem Positioner.axis_setAxis_same (p : Positioner) (a : Axis) (x : AxisRec) : (p.setAxis a x).axis a = x := by
  cases a <;> rfl

/-- A write to one axis leaves the others. -/
theorem Positioner.axis_setAxis_other (p : Positioner) {a b : Axis} (x : AxisRec) (h : b ≠ a) : (p.setAxis a x).axis b = p.axis b := by
  cases a <;> cases b <;> first | rfl | exact absurd rfl h

/-- Writing an axis's own record changes nothing. -/
@[simp] theorem Positioner.setAxis_axis (p : Positioner) (a : Axis) : p.setAxis a (p.axis a) = p := by cases a <;> rfl

/-- The later of two writes to one axis stands. -/
@[simp] theorem Positioner.setAxis_setAxis (p : Positioner) (a : Axis) (x y : AxisRec) :
    (p.setAxis a x).setAxis a y = p.setAxis a y := by cases a <;> rfl

@[simp] theorem State.axis_setAxis_same (s : State) (a : Axis) (x : AxisRec) : (s.setAxis a x).axis a = x :=
  Positioner.axis_setAxis_same s.pos a x

theorem State.axis_setAxis_other (s : State) {a b : Axis} (x : AxisRec) (h : b ≠ a) : (s.setAxis a x).axis b = s.axis b :=
  Positioner.axis_setAxis_other s.pos x h

@[simp] theorem State.setAxis_setAxis (s : State) (a : Axis) (x y : AxisRec) : (s.setAxis a x).setAxis a y = s.setAxis a y := by
  cases a <;> rfl

/-! ## The settings of an axis (R51) -/

@[simp] theorem State.setAxisSettings_pending (s : State) (a : Axis) (x : AxisSettings) : (s.setAxisSettings a x).pending = s.pending := rfl
@[simp] theorem State.setAxisSettings_sites (s : State) (a : Axis) (x : AxisSettings) : (s.setAxisSettings a x).sites = s.sites := rfl
@[simp] theorem State.setAxisSettings_fix (s : State) (a : Axis) (x : AxisSettings) : (s.setAxisSettings a x).fix = s.fix := rfl
@[simp] theorem State.setAxisSettings_fixNumber (s : State) (a : Axis) (x : AxisSettings) : (s.setAxisSettings a x).fixNumber = s.fixNumber := rfl
@[simp] theorem State.setAxisSettings_solution (s : State) (a : Axis) (x : AxisSettings) : (s.setAxisSettings a x).solution = s.solution := rfl
@[simp] theorem State.setAxisSettings_lock (s : State) (a : Axis) (x : AxisSettings) : (s.setAxisSettings a x).lock = s.lock := rfl
@[simp] theorem State.setAxisSettings_violation (s : State) (a : Axis) (x : AxisSettings) : (s.setAxisSettings a x).violation = s.violation := rfl
@[simp] theorem State.setAxisSettings_more (s : State) (a : Axis) (x : AxisSettings) : (s.setAxisSettings a x).more = s.more := rfl
@[simp] theorem State.setAxisSettings_pos (s : State) (a : Axis) (x : AxisSettings) : (s.setAxisSettings a x).pos = s.pos := rfl
@[simp] theorem State.setAxisSettings_mast (s : State) (a : Axis) (x : AxisSettings) : (s.setAxisSettings a x).mast = s.mast := rfl
@[simp] theorem State.setAxisSettings_sense (s : State) (a : Axis) (x : AxisSettings) : (s.setAxisSettings a x).sense = s.sense := rfl
@[simp] theorem State.setAxisSettings_lines (s : State) (a : Axis) (x : AxisSettings) : (s.setAxisSettings a x).lines = s.lines := rfl
@[simp] theorem State.setAxisSettings_trips (s : State) (a : Axis) (x : AxisSettings) : (s.setAxisSettings a x).trips = s.trips := rfl
@[simp] theorem State.setAxisSettings_search (s : State) (a : Axis) (x : AxisSettings) : (s.setAxisSettings a x).search = s.search := rfl
@[simp] theorem State.setAxisSettings_tracking (s : State) (a : Axis) (x : AxisSettings) : (s.setAxisSettings a x).tracking = s.tracking := rfl
@[simp] theorem State.setAxisSettings_gate (s : State) (a : Axis) (x : AxisSettings) : (s.setAxisSettings a x).gate = s.gate := rfl
@[simp] theorem State.setAxisSettings_seq (s : State) (a : Axis) (x : AxisSettings) : (s.setAxisSettings a x).seq = s.seq := rfl
@[simp] theorem State.setAxisSettings_link (s : State) (a : Axis) (x : AxisSettings) : (s.setAxisSettings a x).link = s.link := rfl
@[simp] theorem State.setAxisSettings_notices (s : State) (a : Axis) (x : AxisSettings) : (s.setAxisSettings a x).notices = s.notices := rfl
@[simp] theorem State.setAxisSettings_report (s : State) (a : Axis) (x : AxisSettings) : (s.setAxisSettings a x).report = s.report := rfl
@[simp] theorem State.setAxisSettings_trackTimer (s : State) (a : Axis) (x : AxisSettings) : (s.setAxisSettings a x).trackTimer = s.trackTimer := rfl
@[simp] theorem State.setAxisSettings_store (s : State) (a : Axis) (x : AxisSettings) : (s.setAxisSettings a x).store = s.store := rfl

@[simp] theorem AxesSettings.axis_setAxis_same (p : AxesSettings) (a : Axis) (x : AxisSettings) : (p.setAxis a x).axis a = x := by
  cases a <;> rfl

theorem AxesSettings.axis_setAxis_other (p : AxesSettings) {a b : Axis} (x : AxisSettings) (h : b ≠ a) :
    (p.setAxis a x).axis b = p.axis b := by
  cases a <;> cases b <;> first | rfl | exact absurd rfl h

/-! ## A record of a trip source (R122) -/

@[simp] theorem State.setSource_pending (s : State) (n : Source) (x : SourceRec) : (s.setSource n x).pending = s.pending := rfl
@[simp] theorem State.setSource_work (s : State) (n : Source) (x : SourceRec) : (s.setSource n x).work = s.work := rfl
@[simp] theorem State.setSource_sites (s : State) (n : Source) (x : SourceRec) : (s.setSource n x).sites = s.sites := rfl
@[simp] theorem State.setSource_fix (s : State) (n : Source) (x : SourceRec) : (s.setSource n x).fix = s.fix := rfl
@[simp] theorem State.setSource_fixNumber (s : State) (n : Source) (x : SourceRec) : (s.setSource n x).fixNumber = s.fixNumber := rfl
@[simp] theorem State.setSource_solution (s : State) (n : Source) (x : SourceRec) : (s.setSource n x).solution = s.solution := rfl
@[simp] theorem State.setSource_lock (s : State) (n : Source) (x : SourceRec) : (s.setSource n x).lock = s.lock := rfl
@[simp] theorem State.setSource_violation (s : State) (n : Source) (x : SourceRec) : (s.setSource n x).violation = s.violation := rfl
@[simp] theorem State.setSource_more (s : State) (n : Source) (x : SourceRec) : (s.setSource n x).more = s.more := rfl
@[simp] theorem State.setSource_pos (s : State) (n : Source) (x : SourceRec) : (s.setSource n x).pos = s.pos := rfl
@[simp] theorem State.setSource_mast (s : State) (n : Source) (x : SourceRec) : (s.setSource n x).mast = s.mast := rfl
@[simp] theorem State.setSource_sense (s : State) (n : Source) (x : SourceRec) : (s.setSource n x).sense = s.sense := rfl
@[simp] theorem State.setSource_lines (s : State) (n : Source) (x : SourceRec) : (s.setSource n x).lines = s.lines := rfl
@[simp] theorem State.setSource_search (s : State) (n : Source) (x : SourceRec) : (s.setSource n x).search = s.search := rfl
@[simp] theorem State.setSource_tracking (s : State) (n : Source) (x : SourceRec) : (s.setSource n x).tracking = s.tracking := rfl
@[simp] theorem State.setSource_gate (s : State) (n : Source) (x : SourceRec) : (s.setSource n x).gate = s.gate := rfl
@[simp] theorem State.setSource_seq (s : State) (n : Source) (x : SourceRec) : (s.setSource n x).seq = s.seq := rfl
@[simp] theorem State.setSource_link (s : State) (n : Source) (x : SourceRec) : (s.setSource n x).link = s.link := rfl
@[simp] theorem State.setSource_notices (s : State) (n : Source) (x : SourceRec) : (s.setSource n x).notices = s.notices := rfl
@[simp] theorem State.setSource_report (s : State) (n : Source) (x : SourceRec) : (s.setSource n x).report = s.report := rfl
@[simp] theorem State.setSource_trackTimer (s : State) (n : Source) (x : SourceRec) : (s.setSource n x).trackTimer = s.trackTimer := rfl
@[simp] theorem State.setSource_store (s : State) (n : Source) (x : SourceRec) : (s.setSource n x).store = s.store := rfl

@[simp] theorem State.setSource_trips (s : State) (n : Source) (x : SourceRec) : (s.setSource n x).trips = s.trips.setSource n x := rfl

/-- A source reads what was written to it. -/
@[simp] theorem Trips.source_setSource_same (t : Trips) (n : Source) (x : SourceRec) : (t.setSource n x).source n = x := by
  cases n <;> rfl

/-- A write to one source leaves the others. -/
theorem Trips.source_setSource_other (t : Trips) {n m : Source} (x : SourceRec) (h : m ≠ n) : (t.setSource n x).source m = t.source m := by
  cases n <;> cases m <;> first | rfl | exact absurd rfl h

/-! ## The lines (R110) -/

/-- A line reads what was written to it. -/
@[simp] theorem Lines.line_setLine_same (l : Lines) (n : Line) (x : LineRec) : (l.setLine n x).line n = x := by cases n <;> rfl

/-- A write to one line leaves the others. -/
theorem Lines.line_setLine_other (l : Lines) {n m : Line} (x : LineRec) (h : m ≠ n) : (l.setLine n x).line m = l.line m := by
  cases n <;> cases m <;> first | rfl | exact absurd rfl h

/-! ## The converter channels (R103) -/

/-- A channel reads what was written to it. -/
@[simp] theorem Sense.channel_setChannel_same (x : Sense) (c : Channel) (r : ChannelRec) : (x.setChannel c r).channel c = r := by
  cases c <;> rfl

/-- A write to one channel leaves the others. -/
theorem Sense.channel_setChannel_other (x : Sense) {c d : Channel} (r : ChannelRec) (h : d ≠ c) :
    (x.setChannel c r).channel d = x.channel d := by
  cases c <;> cases d <;> first | rfl | exact absurd rfl h

/-! ## The owner of the positioner (R54) -/

@[simp] theorem State.setOwner_pending (s : State) (o : Owner) : (s.setOwner o).pending = s.pending := rfl
@[simp] theorem State.setOwner_work (s : State) (o : Owner) : (s.setOwner o).work = s.work := rfl
@[simp] theorem State.setOwner_sites (s : State) (o : Owner) : (s.setOwner o).sites = s.sites := rfl
@[simp] theorem State.setOwner_fix (s : State) (o : Owner) : (s.setOwner o).fix = s.fix := rfl
@[simp] theorem State.setOwner_fixNumber (s : State) (o : Owner) : (s.setOwner o).fixNumber = s.fixNumber := rfl
@[simp] theorem State.setOwner_solution (s : State) (o : Owner) : (s.setOwner o).solution = s.solution := rfl
@[simp] theorem State.setOwner_lock (s : State) (o : Owner) : (s.setOwner o).lock = s.lock := rfl
@[simp] theorem State.setOwner_violation (s : State) (o : Owner) : (s.setOwner o).violation = s.violation := rfl
@[simp] theorem State.setOwner_more (s : State) (o : Owner) : (s.setOwner o).more = s.more := rfl
@[simp] theorem State.setOwner_mast (s : State) (o : Owner) : (s.setOwner o).mast = s.mast := rfl
@[simp] theorem State.setOwner_sense (s : State) (o : Owner) : (s.setOwner o).sense = s.sense := rfl
@[simp] theorem State.setOwner_lines (s : State) (o : Owner) : (s.setOwner o).lines = s.lines := rfl
@[simp] theorem State.setOwner_trips (s : State) (o : Owner) : (s.setOwner o).trips = s.trips := rfl
@[simp] theorem State.setOwner_search (s : State) (o : Owner) : (s.setOwner o).search = s.search := rfl
@[simp] theorem State.setOwner_tracking (s : State) (o : Owner) : (s.setOwner o).tracking = s.tracking := rfl
@[simp] theorem State.setOwner_gate (s : State) (o : Owner) : (s.setOwner o).gate = s.gate := rfl
@[simp] theorem State.setOwner_seq (s : State) (o : Owner) : (s.setOwner o).seq = s.seq := rfl
@[simp] theorem State.setOwner_link (s : State) (o : Owner) : (s.setOwner o).link = s.link := rfl
@[simp] theorem State.setOwner_notices (s : State) (o : Owner) : (s.setOwner o).notices = s.notices := rfl
@[simp] theorem State.setOwner_report (s : State) (o : Owner) : (s.setOwner o).report = s.report := rfl
@[simp] theorem State.setOwner_trackTimer (s : State) (o : Owner) : (s.setOwner o).trackTimer = s.trackTimer := rfl
@[simp] theorem State.setOwner_store (s : State) (o : Owner) : (s.setOwner o).store = s.store := rfl

/-- The owner is the one that was set. -/
@[simp] theorem State.setOwner_owner (s : State) (o : Owner) : (s.setOwner o).pos.owner = o := rfl

/-! ## The settings of the map and of the front end -/

@[simp] theorem State.withMap_pending (s : State) (m : MapSettings) : (s.withMap m).pending = s.pending := rfl
@[simp] theorem State.withMap_sites (s : State) (m : MapSettings) : (s.withMap m).sites = s.sites := rfl
@[simp] theorem State.withMap_fix (s : State) (m : MapSettings) : (s.withMap m).fix = s.fix := rfl
@[simp] theorem State.withMap_fixNumber (s : State) (m : MapSettings) : (s.withMap m).fixNumber = s.fixNumber := rfl
@[simp] theorem State.withMap_solution (s : State) (m : MapSettings) : (s.withMap m).solution = s.solution := rfl
@[simp] theorem State.withMap_lock (s : State) (m : MapSettings) : (s.withMap m).lock = s.lock := rfl
@[simp] theorem State.withMap_violation (s : State) (m : MapSettings) : (s.withMap m).violation = s.violation := rfl
@[simp] theorem State.withMap_more (s : State) (m : MapSettings) : (s.withMap m).more = s.more := rfl
@[simp] theorem State.withMap_pos (s : State) (m : MapSettings) : (s.withMap m).pos = s.pos := rfl
@[simp] theorem State.withMap_mast (s : State) (m : MapSettings) : (s.withMap m).mast = s.mast := rfl
@[simp] theorem State.withMap_sense (s : State) (m : MapSettings) : (s.withMap m).sense = s.sense := rfl
@[simp] theorem State.withMap_lines (s : State) (m : MapSettings) : (s.withMap m).lines = s.lines := rfl
@[simp] theorem State.withMap_trips (s : State) (m : MapSettings) : (s.withMap m).trips = s.trips := rfl
@[simp] theorem State.withMap_search (s : State) (m : MapSettings) : (s.withMap m).search = s.search := rfl
@[simp] theorem State.withMap_tracking (s : State) (m : MapSettings) : (s.withMap m).tracking = s.tracking := rfl
@[simp] theorem State.withMap_gate (s : State) (m : MapSettings) : (s.withMap m).gate = s.gate := rfl
@[simp] theorem State.withMap_seq (s : State) (m : MapSettings) : (s.withMap m).seq = s.seq := rfl
@[simp] theorem State.withMap_link (s : State) (m : MapSettings) : (s.withMap m).link = s.link := rfl
@[simp] theorem State.withMap_notices (s : State) (m : MapSettings) : (s.withMap m).notices = s.notices := rfl
@[simp] theorem State.withMap_report (s : State) (m : MapSettings) : (s.withMap m).report = s.report := rfl
@[simp] theorem State.withMap_trackTimer (s : State) (m : MapSettings) : (s.withMap m).trackTimer = s.trackTimer := rfl
@[simp] theorem State.withMap_store (s : State) (m : MapSettings) : (s.withMap m).store = s.store := rfl

@[simp] theorem State.withSense_pending (s : State) (x : SenseSettings) : (s.withSense x).pending = s.pending := rfl
@[simp] theorem State.withSense_sites (s : State) (x : SenseSettings) : (s.withSense x).sites = s.sites := rfl
@[simp] theorem State.withSense_fix (s : State) (x : SenseSettings) : (s.withSense x).fix = s.fix := rfl
@[simp] theorem State.withSense_fixNumber (s : State) (x : SenseSettings) : (s.withSense x).fixNumber = s.fixNumber := rfl
@[simp] theorem State.withSense_solution (s : State) (x : SenseSettings) : (s.withSense x).solution = s.solution := rfl
@[simp] theorem State.withSense_lock (s : State) (x : SenseSettings) : (s.withSense x).lock = s.lock := rfl
@[simp] theorem State.withSense_violation (s : State) (x : SenseSettings) : (s.withSense x).violation = s.violation := rfl
@[simp] theorem State.withSense_more (s : State) (x : SenseSettings) : (s.withSense x).more = s.more := rfl
@[simp] theorem State.withSense_pos (s : State) (x : SenseSettings) : (s.withSense x).pos = s.pos := rfl
@[simp] theorem State.withSense_mast (s : State) (x : SenseSettings) : (s.withSense x).mast = s.mast := rfl
@[simp] theorem State.withSense_sense (s : State) (x : SenseSettings) : (s.withSense x).sense = s.sense := rfl
@[simp] theorem State.withSense_lines (s : State) (x : SenseSettings) : (s.withSense x).lines = s.lines := rfl
@[simp] theorem State.withSense_trips (s : State) (x : SenseSettings) : (s.withSense x).trips = s.trips := rfl
@[simp] theorem State.withSense_search (s : State) (x : SenseSettings) : (s.withSense x).search = s.search := rfl
@[simp] theorem State.withSense_tracking (s : State) (x : SenseSettings) : (s.withSense x).tracking = s.tracking := rfl
@[simp] theorem State.withSense_gate (s : State) (x : SenseSettings) : (s.withSense x).gate = s.gate := rfl
@[simp] theorem State.withSense_seq (s : State) (x : SenseSettings) : (s.withSense x).seq = s.seq := rfl
@[simp] theorem State.withSense_link (s : State) (x : SenseSettings) : (s.withSense x).link = s.link := rfl
@[simp] theorem State.withSense_notices (s : State) (x : SenseSettings) : (s.withSense x).notices = s.notices := rfl
@[simp] theorem State.withSense_report (s : State) (x : SenseSettings) : (s.withSense x).report = s.report := rfl
@[simp] theorem State.withSense_trackTimer (s : State) (x : SenseSettings) : (s.withSense x).trackTimer = s.trackTimer := rfl
@[simp] theorem State.withSense_store (s : State) (x : SenseSettings) : (s.withSense x).store = s.store := rfl

/-! ## A search profile (R163) -/

@[simp] theorem State.withProfile_pending (s : State) (k : SearchKind) (p : Profile) : (s.withProfile k p).pending = s.pending := by cases k <;> rfl
@[simp] theorem State.withProfile_sites (s : State) (k : SearchKind) (p : Profile) : (s.withProfile k p).sites = s.sites := by cases k <;> rfl
@[simp] theorem State.withProfile_fix (s : State) (k : SearchKind) (p : Profile) : (s.withProfile k p).fix = s.fix := by cases k <;> rfl
@[simp] theorem State.withProfile_fixNumber (s : State) (k : SearchKind) (p : Profile) : (s.withProfile k p).fixNumber = s.fixNumber := by cases k <;> rfl
@[simp] theorem State.withProfile_solution (s : State) (k : SearchKind) (p : Profile) : (s.withProfile k p).solution = s.solution := by cases k <;> rfl
@[simp] theorem State.withProfile_lock (s : State) (k : SearchKind) (p : Profile) : (s.withProfile k p).lock = s.lock := by cases k <;> rfl
@[simp] theorem State.withProfile_violation (s : State) (k : SearchKind) (p : Profile) : (s.withProfile k p).violation = s.violation := by cases k <;> rfl
@[simp] theorem State.withProfile_more (s : State) (k : SearchKind) (p : Profile) : (s.withProfile k p).more = s.more := by cases k <;> rfl
@[simp] theorem State.withProfile_pos (s : State) (k : SearchKind) (p : Profile) : (s.withProfile k p).pos = s.pos := by cases k <;> rfl
@[simp] theorem State.withProfile_mast (s : State) (k : SearchKind) (p : Profile) : (s.withProfile k p).mast = s.mast := by cases k <;> rfl
@[simp] theorem State.withProfile_sense (s : State) (k : SearchKind) (p : Profile) : (s.withProfile k p).sense = s.sense := by cases k <;> rfl
@[simp] theorem State.withProfile_lines (s : State) (k : SearchKind) (p : Profile) : (s.withProfile k p).lines = s.lines := by cases k <;> rfl
@[simp] theorem State.withProfile_trips (s : State) (k : SearchKind) (p : Profile) : (s.withProfile k p).trips = s.trips := by cases k <;> rfl
@[simp] theorem State.withProfile_search (s : State) (k : SearchKind) (p : Profile) : (s.withProfile k p).search = s.search := by cases k <;> rfl
@[simp] theorem State.withProfile_tracking (s : State) (k : SearchKind) (p : Profile) : (s.withProfile k p).tracking = s.tracking := by cases k <;> rfl
@[simp] theorem State.withProfile_gate (s : State) (k : SearchKind) (p : Profile) : (s.withProfile k p).gate = s.gate := by cases k <;> rfl
@[simp] theorem State.withProfile_seq (s : State) (k : SearchKind) (p : Profile) : (s.withProfile k p).seq = s.seq := by cases k <;> rfl
@[simp] theorem State.withProfile_link (s : State) (k : SearchKind) (p : Profile) : (s.withProfile k p).link = s.link := by cases k <;> rfl
@[simp] theorem State.withProfile_notices (s : State) (k : SearchKind) (p : Profile) : (s.withProfile k p).notices = s.notices := by cases k <;> rfl
@[simp] theorem State.withProfile_report (s : State) (k : SearchKind) (p : Profile) : (s.withProfile k p).report = s.report := by cases k <;> rfl
@[simp] theorem State.withProfile_trackTimer (s : State) (k : SearchKind) (p : Profile) : (s.withProfile k p).trackTimer = s.trackTimer := by cases k <;> rfl
@[simp] theorem State.withProfile_store (s : State) (k : SearchKind) (p : Profile) : (s.withProfile k p).store = s.store := by cases k <;> rfl

/-! ## A new mast record (R128) -/

/-- A mast record is put as it is; only the notices may change beside it (R128). -/
theorem State.putMast_eq (s : State) (m : Mast) : s.putMast m = { s with mast := m, notices := (s.putMast m).notices } := by
  unfold State.putMast State.raiseWait
  dsimp only
  repeat' split
  all_goals rfl

@[simp] theorem State.putMast_pending (s : State) (m : Mast) : (s.putMast m).pending = s.pending := by rw [State.putMast_eq]
@[simp] theorem State.putMast_work (s : State) (m : Mast) : (s.putMast m).work = s.work := by rw [State.putMast_eq]
@[simp] theorem State.putMast_sites (s : State) (m : Mast) : (s.putMast m).sites = s.sites := by rw [State.putMast_eq]
@[simp] theorem State.putMast_fix (s : State) (m : Mast) : (s.putMast m).fix = s.fix := by rw [State.putMast_eq]
@[simp] theorem State.putMast_fixNumber (s : State) (m : Mast) : (s.putMast m).fixNumber = s.fixNumber := by rw [State.putMast_eq]
@[simp] theorem State.putMast_solution (s : State) (m : Mast) : (s.putMast m).solution = s.solution := by rw [State.putMast_eq]
@[simp] theorem State.putMast_lock (s : State) (m : Mast) : (s.putMast m).lock = s.lock := by rw [State.putMast_eq]
@[simp] theorem State.putMast_violation (s : State) (m : Mast) : (s.putMast m).violation = s.violation := by rw [State.putMast_eq]
@[simp] theorem State.putMast_more (s : State) (m : Mast) : (s.putMast m).more = s.more := by rw [State.putMast_eq]
@[simp] theorem State.putMast_pos (s : State) (m : Mast) : (s.putMast m).pos = s.pos := by rw [State.putMast_eq]
@[simp] theorem State.putMast_sense (s : State) (m : Mast) : (s.putMast m).sense = s.sense := by rw [State.putMast_eq]
@[simp] theorem State.putMast_lines (s : State) (m : Mast) : (s.putMast m).lines = s.lines := by rw [State.putMast_eq]
@[simp] theorem State.putMast_trips (s : State) (m : Mast) : (s.putMast m).trips = s.trips := by rw [State.putMast_eq]
@[simp] theorem State.putMast_search (s : State) (m : Mast) : (s.putMast m).search = s.search := by rw [State.putMast_eq]
@[simp] theorem State.putMast_tracking (s : State) (m : Mast) : (s.putMast m).tracking = s.tracking := by rw [State.putMast_eq]
@[simp] theorem State.putMast_gate (s : State) (m : Mast) : (s.putMast m).gate = s.gate := by rw [State.putMast_eq]
@[simp] theorem State.putMast_seq (s : State) (m : Mast) : (s.putMast m).seq = s.seq := by rw [State.putMast_eq]
@[simp] theorem State.putMast_link (s : State) (m : Mast) : (s.putMast m).link = s.link := by rw [State.putMast_eq]
@[simp] theorem State.putMast_report (s : State) (m : Mast) : (s.putMast m).report = s.report := by rw [State.putMast_eq]
@[simp] theorem State.putMast_trackTimer (s : State) (m : Mast) : (s.putMast m).trackTimer = s.trackTimer := by rw [State.putMast_eq]
@[simp] theorem State.putMast_store (s : State) (m : Mast) : (s.putMast m).store = s.store := by rw [State.putMast_eq]

@[simp] theorem State.putMast_mast (s : State) (m : Mast) : (s.putMast m).mast = m := by rw [State.putMast_eq]

/-- Where CLEAR_WAIT is neither entered nor left, a new mast record is all that changes (R128). -/
theorem State.putMast_plain (s : State) (m : Mast) (h : s.mast.state = .clearWait ↔ m.state = .clearWait) :
    s.putMast m = { s with mast := m } := by
  unfold State.putMast
  by_cases hm : m.state = .clearWait <;> simp [h, hm]

end Sys2Proof.Machine
end

