-- ==== Sys2Proof/Laws/Ground.lean ====
section
/-! SUPPORT. The ground that the plant stands on: the settings, the fix, the lock, the lines, the trip sources, the link, the store and the
REPORT timer. No operation of the plant changes it, and neither does the settling after an event; only commands do. -/

namespace Sys2Proof.Machine

open Sys2Proof

set_option linter.unusedSimpArgs false

/-- The part of the state that no hand-over between the blocks changes. -/
structure Ground where
  pending : List Instr
  work : WorkSettings
  fix : Option Fix
  fixNumber : Nat
  lock : Bool
  lines : Lines
  trips : Trips
  link : Link
  report : IntervalTimer
  store : Store

/-- The ground of a state. -/
def State.ground (s : State) : Ground :=
  { pending := s.pending, work := s.work, fix := s.fix, fixNumber := s.fixNumber, lock := s.lock, lines := s.lines, trips := s.trips
    link := s.link, report := s.report, store := s.store }

/-- Each part of the ground is read from it. -/
theorem State.of_ground (s : State) :
    s.pending = s.ground.pending ∧ s.work = s.ground.work ∧ s.fix = s.ground.fix ∧ s.fixNumber = s.ground.fixNumber
      ∧ s.lock = s.ground.lock ∧ s.lines = s.ground.lines ∧ s.trips = s.ground.trips ∧ s.link = s.ground.link
      ∧ s.report = s.ground.report ∧ s.store = s.ground.store :=
  ⟨rfl, rfl, rfl, rfl, rfl, rfl, rfl, rfl, rfl, rfl⟩

/-- The ground of a state that is written out. -/
theorem State.ground_mk (a : List Instr) (b : WorkSettings) (c : List Site) (d : Option Fix) (e : Nat) (f : Solution) (g : Bool)
    (h : Option Violation) (i : Bool) (j : Positioner) (k : Mast) (l : Sense) (m : Lines) (n : Trips) (o : Search) (p : Tracking)
    (q : Gate) (r : Sequence) (t : Link) (u : Notices) (v w : IntervalTimer) (x : Store) :
    State.ground ⟨a, b, c, d, e, f, g, h, i, j, k, l, m, n, o, p, q, r, t, u, v, w, x⟩ = ⟨a, b, d, e, g, m, n, t, v, x⟩ := rfl


/-- A raise leaves the ground. -/
@[simp] theorem State.raise_ground (s : State) (k : Notice) : (s.raise k).ground = s.ground := rfl

/-- A new record of an axis leaves the ground. -/
@[simp] theorem State.setAxis_ground (s : State) (a : Axis) (x : AxisRec) : (s.setAxis a x).ground = s.ground := rfl

/-- A violation leaves the ground. -/
@[simp] theorem State.recordViolation_ground (s : State) (k : ViolationKind) (n : Nat) (p : Int) : (s.recordViolation k n p).ground = s.ground := by
  unfold State.recordViolation
  try dsimp only
  (repeat' split) <;> simp [State.ground_mk, State.of_ground]

/-- A new owner of the positioner leaves the ground. -/
@[simp] theorem State.setOwner_ground (s : State) (o : Owner) : (s.setOwner o).ground = s.ground := rfl

/-- A move leaves the ground. -/
@[simp] theorem State.startMove_ground (s : State) (a : Axis) (t : Int) (o : Owner) : (s.startMove a t o).ground = s.ground := rfl

/-- A path violation leaves the ground. -/
@[simp] theorem State.pathViolation_ground (s : State) (t : Int) : (s.pathViolation t).ground = s.ground := by
  unfold State.pathViolation
  split <;> simp

/-- A refusal leaves the ground. -/
@[simp] theorem State.noteRefusal_ground (s : State) (st : Status) (t : Int) : (s.noteRefusal st t).ground = s.ground := by
  unfold State.noteRefusal
  try dsimp only
  (repeat' split) <;> simp [State.ground_mk, State.of_ground]

/-- A pending transfer leaves the ground. -/
@[simp] theorem State.pendingTransfer_ground (s : State) (a : Axis) : (s.pendingTransfer a).ground = s.ground := by
  unfold State.pendingTransfer
  try dsimp only
  (repeat' split) <;> simp [State.ground_mk, State.of_ground]

/-- A transfer at rest leaves the ground. -/
@[simp] theorem State.atRestTransfer_ground (s : State) (a : Axis) : (s.atRestTransfer a).ground = s.ground := by
  unfold State.atRestTransfer
  try dsimp only
  (repeat' split) <;> simp [State.ground_mk, State.of_ground]

/-- A stop of an axis leaves the ground. -/
@[simp] theorem State.stopAxis_ground (s : State) (a : Axis) (e : Arrival) : (s.stopAxis a e).ground = s.ground := by
  unfold State.stopAxis
  try dsimp only
  (repeat' split) <;> simp [State.ground_mk, State.of_ground]

/-- A stop of pan and tilt leaves the ground. -/
@[simp] theorem State.stopDish_ground (s : State) : s.stopDish.ground = s.ground := by
  unfold State.stopDish
  try dsimp only
  simp [State.ground_mk, State.of_ground]

/-- A stop of all axes leaves the ground. -/
@[simp] theorem State.stopAll_ground (s : State) : s.stopAll.ground = s.ground := by
  unfold State.stopAll
  try dsimp only
  simp [State.ground_mk, State.of_ground]

/-- A stop of an axis by a failure leaves the ground. -/
@[simp] theorem State.failStop_ground (s : State) (a : Axis) : (s.failStop a).ground = s.ground := by
  unfold State.failStop
  split <;> simp [State.of_ground]

/-- One axis of a stow leaves the ground. -/
@[simp] theorem State.stowAxis_ground (s : State) (a : Axis) (o : Owner) : (s.stowAxis a o).ground = s.ground := by
  unfold State.stowAxis
  try dsimp only
  (repeat' split) <;> simp [State.ground_mk, State.of_ground]

/-- A stow leaves the ground. -/
@[simp] theorem State.stow_ground (s : State) (o : Owner) : (s.stow o).1.ground = s.ground := by
  unfold State.stow
  try dsimp only
  (repeat' split) <;> simp [State.ground_mk, State.of_ground]

/-- A homing leaves the ground. -/
@[simp] theorem State.startHome_ground (s : State) (a : Axis) (o : Owner) : (s.startHome a o).ground = s.ground := rfl

/-- Homings begun one after the other leave the ground. -/
@[simp] theorem State.foldl_startHome_ground (l : List Axis) (o : Owner) (s : State) :
    (l.foldl (fun u a => u.startHome a o) s).ground = s.ground := by
  induction l generalizing s with
  | nil => rfl
  | cons a as ih => rw [List.foldl_cons, ih]; rfl

/-- A change of position leaves the ground. -/
@[simp] theorem State.afterPosition_ground (s : State) (a : Axis) : (s.afterPosition a).ground = s.ground := by
  unfold State.afterPosition
  try dsimp only
  (repeat' split) <;> simp [State.ground_mk, State.of_ground]

/-- The notice of a wait leaves the ground. -/
@[simp] theorem State.raiseWait_ground (s : State) (o : MastOwner) : (s.raiseWait o).ground = s.ground := by
  unfold State.raiseWait
  try dsimp only
  (repeat' split) <;> simp [State.ground_mk, State.of_ground]

/-- A new record of the mast leaves the ground. -/
@[simp] theorem State.putMast_ground (s : State) (m : Mast) : (s.putMast m).ground = s.ground := by
  unfold State.putMast
  try dsimp only
  (repeat' split) <;> simp [State.ground_mk, State.of_ground]

/-- The end of a mast move leaves the ground. -/
@[simp] theorem State.endMove_ground (s : State) (o : MastOutcome) : (s.endMove o).1.ground = s.ground := by
  unfold State.endMove
  try dsimp only
  (repeat' split) <;> simp [State.ground_mk, State.of_ground]

/-- A mast that comes to a stand leaves the ground. -/
@[simp] theorem State.standWith_ground (s : State) (o : MastOutcome) : (s.standWith o).1.ground = s.ground := by
  unfold State.standWith
  try dsimp only
  simp [State.ground_mk, State.of_ground]

/-- A raise leaves the ground. -/
@[simp] theorem State.startRaise_ground (s : State) (st : MastState) (k : SettleKind) : (s.startRaise st k).ground = s.ground := by
  unfold State.startRaise
  try dsimp only
  (repeat' split) <;> simp [State.ground_mk, State.of_ground]

/-- A lowering leaves the ground. -/
@[simp] theorem State.startLowering_ground (s : State) : s.startLowering.ground = s.ground := by
  unfold State.startLowering
  try dsimp only
  (repeat' split) <;> simp [State.ground_mk, State.of_ground]

/-- A lowering to the nest leaves the ground. -/
@[simp] theorem State.lowerToNest_ground (s : State) : s.lowerToNest.ground = s.ground := by
  unfold State.lowerToNest
  try dsimp only
  split <;> simp [State.of_ground]

/-- A nudge down leaves the ground. -/
@[simp] theorem State.startNudgeDown_ground (s : State) : s.startNudgeDown.ground = s.ground := by
  unfold State.startNudgeDown
  try dsimp only
  (repeat' split) <;> simp [State.ground_mk, State.of_ground]

/-- A nudge up leaves the ground. -/
@[simp] theorem State.startNudgeUp_ground (s : State) : s.startNudgeUp.ground = s.ground := by
  unfold State.startNudgeUp
  try dsimp only
  simp [State.ground_mk, State.of_ground]

/-- A nudge leaves the ground. -/
@[simp] theorem State.nudge_ground (s : State) : (s.nudge).1.ground = s.ground := by
  unfold State.nudge
  try dsimp only
  (repeat' split) <;> simp [State.ground_mk, State.of_ground]

/-- The end of a settle leaves the ground. -/
@[simp] theorem State.mastSettled_ground (s : State) : (s.mastSettled).1.ground = s.ground := by
  unfold State.mastSettled
  try dsimp only
  (repeat' split) <;> simp [State.ground_mk, State.of_ground]

/-- The end of a lowering at the nest leaves the ground. -/
@[simp] theorem State.endAtNest_ground (s : State) : (s.endAtNest).1.ground = s.ground := by
  unfold State.endAtNest
  try dsimp only
  (repeat' split) <;> simp [State.ground_mk, State.of_ground]

/-- NEST, closing, leaves the ground. -/
@[simp] theorem State.nestCloses_ground (s : State) : (s.nestCloses).1.ground = s.ground := by
  unfold State.nestCloses
  try dsimp only
  (repeat' split) <;> simp [State.ground_mk, State.of_ground]

/-- NEST, opening, leaves the ground. -/
@[simp] theorem State.nestOpens_ground (s : State) : s.nestOpens.ground = s.ground := by
  unfold State.nestOpens
  try dsimp only
  (repeat' split) <;> simp [State.ground_mk, State.of_ground]

/-- The mast, looking at its count and its limits, leaves the ground. -/
@[simp] theorem State.mastAdvance_ground (s : State) : (s.mastAdvance).1.ground = s.ground := by
  unfold State.mastAdvance
  try dsimp only
  (repeat' split) <;> simp [State.ground_mk, State.of_ground]

/-- A stop of the mast leaves the ground. -/
@[simp] theorem State.mastStop_ground (s : State) : s.mastStop.ground = s.ground := by
  unfold State.mastStop
  try dsimp only
  (repeat' split) <;> simp [State.ground_mk, State.of_ground]

/-- A mast that sets out leaves the ground. -/
@[simp] theorem State.mastSetsOut_ground (s : State) : s.mastSetsOut.ground = s.ground := by
  unfold State.mastSetsOut
  try dsimp only
  (repeat' split) <;> simp [State.ground_mk, State.of_ground]

/-- The taking of a MAST_TO leaves the ground. -/
@[simp] theorem State.mastTakes_ground (s : State) (h : Nat) (o : MastOwner) : (s.mastTakes h o).ground = s.ground := rfl

/-- The taking of a MAST_LOWER leaves the ground. -/
@[simp] theorem State.lowerTakes_ground (s : State) (o : MastOwner) : (s.lowerTakes o).ground = s.ground := rfl

/-- A hold of the mast leaves the ground. -/
@[simp] theorem State.holdMast_ground (s : State) : s.holdMast.ground = s.ground := by
  unfold State.holdMast
  try dsimp only
  simp [State.ground_mk, State.of_ground]

/-- A trip lowering leaves the ground. -/
@[simp] theorem State.tripLower_ground (s : State) : s.tripLower.ground = s.ground := by
  unfold State.tripLower
  try dsimp only
  simp [State.ground_mk, State.of_ground]

/-- The combined action, read by the mast, leaves the ground. -/
@[simp] theorem State.mastEnact_ground (s : State) : s.mastEnact.ground = s.ground := by
  unfold State.mastEnact
  try dsimp only
  (repeat' split) <;> simp [State.ground_mk, State.of_ground]

/-- The gate leaves the ground. -/
@[simp] theorem State.gateForm_ground (s : State) : s.gateForm.ground = s.ground := by
  unfold State.gateForm
  try dsimp only
  (repeat' split) <;> simp [State.ground_mk, State.of_ground]

/-- The transmit request leaves the ground. -/
@[simp] theorem State.setRequest_ground (s : State) (b : Bool) : (s.setRequest b).ground = s.ground := by
  unfold State.setRequest
  try dsimp only
  (repeat' split) <;> simp [State.ground_mk, State.of_ground]

/-- The end of a search leaves the ground. -/
@[simp] theorem State.endSearch_ground (s : State) (f : FinalStatus) : (s.endSearch f).ground = s.ground := by
  unfold State.endSearch
  try dsimp only
  (repeat' split) <;> simp [State.ground_mk, State.of_ground]

/-- A search that is cut short leaves the ground. -/
@[simp] theorem State.cutSearch_ground (s : State) (f : FinalStatus) : (s.cutSearch f).ground = s.ground := by
  unfold State.cutSearch
  try dsimp only
  simp [State.ground_mk, State.of_ground]

/-- The start of a dwell leaves the ground. -/
@[simp] theorem State.beginDwell_ground (s : State) : s.beginDwell.ground = s.ground := rfl

/-- The end of a motion, handed to a search, leaves the ground. -/
@[simp] theorem State.searchAxisEnd_ground (s : State) (a : Arrival) : (s.searchAxisEnd a).ground = s.ground := by
  unfold State.searchAxisEnd
  try dsimp only
  (repeat' split) <;> simp [State.ground_mk, State.of_ground]

/-- A refused search leaves the ground. -/
@[simp] theorem State.refusedSearch_ground (s : State) (k : SearchKind) (n : Nat) (f : FinalStatus) : (s.refusedSearch k n f).ground = s.ground := by
  unfold State.refusedSearch
  try dsimp only
  simp [State.ground_mk, State.of_ground]

/-- A search that begins leaves the ground. -/
@[simp] theorem State.beginSearch_ground (s : State) (k : SearchKind) (o : SearchOrigin) (r : Site) (p : Option (Int × Int)) : (s.beginSearch k o r p).ground = s.ground := by
  unfold State.beginSearch
  try dsimp only
  simp [State.ground_mk, State.of_ground]

/-- A search that is started leaves the ground. -/
@[simp] theorem State.startSearch_ground (s : State) (k : SearchKind) (o : SearchOrigin) (n : Nat) : (s.startSearch k o n).1.ground = s.ground := by
  unfold State.startSearch
  try dsimp only
  (repeat' split) <;> simp [State.ground_mk, State.of_ground]

/-- TRACK ON leaves the ground. -/
@[simp] theorem State.trackOn_ground (s : State) (n : Nat) : (s.trackOn n).ground = s.ground := rfl

/-- TRACK OFF leaves the ground. -/
@[simp] theorem State.trackOff_ground (s : State) : s.trackOff.ground = s.ground := rfl

/-- An expiry of the TRACK timer leaves the ground. -/
@[simp] theorem State.trackExpires_ground (s : State) : s.trackExpires.ground = s.ground := by
  unfold State.trackExpires
  try dsimp only
  (repeat' split) <;> simp [State.ground_mk, State.of_ground]

/-- A stage that is entered leaves the ground. -/
@[simp] theorem State.seqEnter_ground (s : State) (st : SeqState) : (s.seqEnter st).ground = s.ground := by
  unfold State.seqEnter
  try dsimp only
  simp [State.ground_mk, State.of_ground]

/-- A stop of the mast by a failure leaves the ground. -/
@[simp] theorem State.failStopMast_ground (s : State) : s.failStopMast.ground = s.ground := by
  unfold State.failStopMast
  dsimp only
  split <;> simp [State.ground_mk, State.of_ground]

/-- A sequence that releases the plant leaves the ground. -/
@[simp] theorem State.seqRelease_ground (s : State) : s.seqRelease.ground = s.ground := by
  unfold State.seqRelease
  try dsimp only
  (repeat' split) <;> simp [State.ground_mk, State.of_ground]

/-- A sequence that fails leaves the ground. -/
@[simp] theorem State.seqFail_ground (s : State) (c : Cause) : (s.seqFail c).ground = s.ground := by
  unfold State.seqFail
  try dsimp only
  (repeat' split) <;> simp [State.ground_mk, State.of_ground]

/-- DEPLOYED, entered, leaves the ground. -/
@[simp] theorem State.enterDeployed_ground (s : State) : s.enterDeployed.ground = s.ground := by
  unfold State.enterDeployed
  try dsimp only
  (repeat' split) <;> simp [State.ground_mk, State.of_ground]

/-- DEPLOY_TX, entered, leaves the ground. -/
@[simp] theorem State.enterDeployTx_ground (s : State) : s.enterDeployTx.ground = s.ground := by
  unfold State.enterDeployTx
  try dsimp only
  (repeat' split) <;> simp [State.ground_mk, State.of_ground]

/-- What follows the search of a deploy leaves the ground. -/
@[simp] theorem State.afterSearch_ground (s : State) : s.afterSearch.ground = s.ground := by
  unfold State.afterSearch
  try dsimp only
  (repeat' split) <;> simp [State.ground_mk, State.of_ground]

/-- The issue of a SEARCH leaves the ground. -/
@[simp] theorem State.issueSearch_ground (s : State) : s.issueSearch.ground = s.ground := by
  unfold State.issueSearch
  try dsimp only
  (repeat' split) <;> simp [State.ground_mk, State.of_ground]

/-- DEPLOY_SEARCH, entered, leaves the ground. -/
@[simp] theorem State.enterDeploySearch_ground (s : State) : s.enterDeploySearch.ground = s.ground := by
  unfold State.enterDeploySearch
  try dsimp only
  simp [State.ground_mk, State.of_ground]

/-- What follows the aim of a deploy leaves the ground. -/
@[simp] theorem State.afterAim_ground (s : State) : s.afterAim.ground = s.ground := by
  unfold State.afterAim
  try dsimp only
  (repeat' split) <;> simp [State.ground_mk, State.of_ground]

/-- The transfers of an AIM leaves the ground. -/
@[simp] theorem State.aimTransfer_ground (s : State) (q : Solution) (o : Owner) : (s.aimTransfer q o).ground = s.ground := by
  unfold State.aimTransfer
  try dsimp only
  simp [State.ground_mk, State.of_ground]

/-- An AIM leaves the ground. -/
@[simp] theorem State.aimRun_ground (s : State) (n : Nat) (o : Owner) : (s.aimRun n o).1.ground = s.ground := by
  unfold State.aimRun
  try dsimp only
  (repeat' split) <;> simp [State.ground_mk, State.of_ground]

/-- DEPLOY_AIM, entered, leaves the ground. -/
@[simp] theorem State.enterDeployAim_ground (s : State) : s.enterDeployAim.ground = s.ground := by
  unfold State.enterDeployAim
  try dsimp only
  (repeat' split) <;> simp [State.ground_mk, State.of_ground]

/-- The issue of a MAST_TO leaves the ground. -/
@[simp] theorem State.issueRaise_ground (s : State) : s.issueRaise.ground = s.ground := by
  unfold State.issueRaise
  try dsimp only
  (repeat' split) <;> simp [State.ground_mk, State.of_ground]

/-- DEPLOY_RAISE, entered, leaves the ground. -/
@[simp] theorem State.enterDeployRaise_ground (s : State) : s.enterDeployRaise.ground = s.ground := by
  unfold State.enterDeployRaise
  try dsimp only
  simp [State.ground_mk, State.of_ground]

/-- DEPLOY_HOME, entered, leaves the ground. -/
@[simp] theorem State.enterDeployHome_ground (s : State) : s.enterDeployHome.ground = s.ground := by
  unfold State.enterDeployHome
  try dsimp only
  (repeat' split) <;> simp [State.ground_mk, State.of_ground]

/-- A deploy that begins leaves the ground. -/
@[simp] theorem State.enterDeploy_ground (s : State) : s.enterDeploy.ground = s.ground := by
  unfold State.enterDeploy
  try dsimp only
  (repeat' split) <;> simp [State.ground_mk, State.of_ground]

/-- The end of a stow leaves the ground. -/
@[simp] theorem State.seqDone_ground (s : State) : s.seqDone.ground = s.ground := by
  unfold State.seqDone
  try dsimp only
  (repeat' split) <;> simp [State.ground_mk, State.of_ground]

/-- STOW_MAST, entered, leaves the ground. -/
@[simp] theorem State.enterStowMast_ground (s : State) : s.enterStowMast.ground = s.ground := by
  unfold State.enterStowMast
  try dsimp only
  (repeat' split) <;> simp [State.ground_mk, State.of_ground]

/-- STOW_POSITIONER, entered, leaves the ground. -/
@[simp] theorem State.enterStowPositioner_ground (s : State) : s.enterStowPositioner.ground = s.ground := by
  unfold State.enterStowPositioner
  try dsimp only
  (repeat' split) <;> simp [State.ground_mk, State.of_ground]

/-- The stage that follows the axes leaves the ground. -/
@[simp] theorem State.axesDone_ground (s : State) : s.axesDone.ground = s.ground := by
  unfold State.axesDone
  try dsimp only
  (repeat' split) <;> simp [State.ground_mk, State.of_ground]

/-- The end of a motion, handed to the sequence, leaves the ground. -/
@[simp] theorem State.seqAxisEnd_ground (s : State) (a : Axis) (st : Arrival) : (s.seqAxisEnd a st).ground = s.ground := by
  unfold State.seqAxisEnd
  try dsimp only
  (repeat' split) <;> simp [State.ground_mk, State.of_ground]

/-- An outcome of the mast, handed to the sequence, leaves the ground. -/
@[simp] theorem State.seqMastEnd_ground (s : State) (o : MastOutcome) : (s.seqMastEnd o).ground = s.ground := by
  unfold State.seqMastEnd
  try dsimp only
  (repeat' split) <;> simp [State.ground_mk, State.of_ground]

/-- An outcome, handed on, leaves the ground. -/
@[simp] theorem handMast_ground (r : State × Option MastOutcome) : (handMast r).ground = r.1.ground := by
  unfold handMast
  split <;> simp

/-- The end of a search, handed to the sequence, leaves the ground. -/
@[simp] theorem State.seqSearchEnd_ground (s : State) (f : FinalStatus) : (s.seqSearchEnd f).ground = s.ground := by
  unfold State.seqSearchEnd
  try dsimp only
  (repeat' split) <;> simp [State.ground_mk, State.of_ground]

/-- The end of a search, handed on, leaves the ground. -/
@[simp] theorem State.handSearchEnd_ground (s t : State) : (s.handSearchEnd t).ground = t.ground := by
  unfold State.handSearchEnd
  (repeat' split) <;> simp

/-- A change of the gate, handed to the sequence, leaves the ground. -/
@[simp] theorem State.seqGate_ground (s : State) : s.seqGate.ground = s.ground := by
  unfold State.seqGate
  try dsimp only
  (repeat' split) <;> simp [State.ground_mk, State.of_ground]

/-- A sequence whose plant is taken leaves the ground. -/
@[simp] theorem State.seqTaken_ground (s : State) : s.seqTaken.ground = s.ground := by
  unfold State.seqTaken
  try dsimp only
  (repeat' split) <;> simp [State.ground_mk, State.of_ground]

/-- The gate and what it hands on leaves the ground. -/
@[simp] theorem State.gateSync_ground (s : State) : s.gateSync.ground = s.ground := by
  unfold State.gateSync
  try dsimp only
  (repeat' split) <;> simp [State.ground_mk, State.of_ground]

/-- The report of a motion leaves the ground. -/
@[simp] theorem State.reportEnd_ground (s : State) (a : Axis) (st : Arrival) : (s.reportEnd a st).ground = s.ground := by
  unfold State.reportEnd
  try dsimp only
  (repeat' split) <;> simp [State.ground_mk, State.of_ground]

/-- The end of a motion leaves the ground. -/
@[simp] theorem State.axisEnds_ground (s : State) (a : Axis) (st : Arrival) : (s.axisEnds a st).ground = s.ground := by
  unfold State.axisEnds
  try dsimp only
  (repeat' split) <;> simp [State.ground_mk, State.of_ground]

/-- One axis of a refused stow leaves the ground. -/
@[simp] theorem State.unstowed_ground (s : State) (a : Axis) : (s.unstowed a).ground = s.ground := by
  unfold State.unstowed
  try dsimp only
  (repeat' split) <;> simp [State.ground_mk, State.of_ground]

/-- A trip stow leaves the ground. -/
@[simp] theorem State.tripStow_ground (s : State) : s.tripStow.ground = s.ground := by
  unfold State.tripStow
  try dsimp only
  (repeat' split) <;> simp [State.ground_mk, State.of_ground]

/-- A trip stow, issued again, leaves the ground. -/
@[simp] theorem State.retryStow_ground (s : State) : s.retryStow.ground = s.ground := by
  unfold State.retryStow
  try dsimp only
  (repeat' split) <;> simp [State.ground_mk, State.of_ground]

/-- A trip hold leaves the ground. -/
@[simp] theorem State.holdAll_ground (s : State) : s.holdAll.ground = s.ground := by
  unfold State.holdAll
  try dsimp only
  simp [State.ground_mk, State.of_ground]

/-- A trip stow that begins leaves the ground. -/
@[simp] theorem State.beginTripStow_ground (s : State) : s.beginTripStow.ground = s.ground := by
  unfold State.beginTripStow
  try dsimp only
  (repeat' split) <;> simp [State.ground_mk, State.of_ground]

/-- The end of a positioner action leaves the ground. -/
@[simp] theorem State.endPositionerTrip_ground (s : State) : s.endPositionerTrip.ground = s.ground := by
  unfold State.endPositionerTrip
  try dsimp only
  (repeat' split) <;> simp [State.ground_mk, State.of_ground]

/-- The combined action, read by the positioner, leaves the ground. -/
@[simp] theorem State.posEnact_ground (s : State) : s.posEnact.ground = s.ground := by
  unfold State.posEnact
  try dsimp only
  (repeat' split) <;> simp [State.ground_mk, State.of_ground]

/-- The return of the positioner leaves the ground. -/
@[simp] theorem State.posReturn_ground (s : State) : s.posReturn.ground = s.ground := by
  unfold State.posReturn
  try dsimp only
  (repeat' split) <;> simp [State.ground_mk, State.of_ground]

/-- The taking of the plant by a trip leaves the ground. -/
@[simp] theorem State.tripTook_ground (s t : State) : (s.tripTook t).ground = t.ground := by
  unfold State.tripTook
  (repeat' split) <;> simp

/-- One round leaves the ground. -/
@[simp] theorem State.round_ground (s : State) : s.round.ground = s.ground := by
  unfold State.round
  simp

/-- The settling after an event leaves the ground. -/
@[simp] theorem State.reconcile_ground (s : State) : s.reconcile.ground = s.ground := by
  unfold State.reconcile
  simp

/-- The trip sources of the ground. -/
theorem State.ground_trips (s : State) : s.ground.trips = s.trips := rfl

/-- The link of the ground. -/
theorem State.ground_link (s : State) : s.ground.link = s.link := rfl

/-- The settings of the ground. -/
theorem State.ground_work (s : State) : s.ground.work = s.work := rfl

/-- The lock of the ground. -/
theorem State.ground_lock (s : State) : s.ground.lock = s.lock := rfl

/-- The lines of the ground. -/
theorem State.ground_lines (s : State) : s.ground.lines = s.lines := rfl

/-- The settings store of the ground. -/
theorem State.ground_store (s : State) : s.ground.store = s.store := rfl

/-- The waiting commands of the ground. -/
theorem State.ground_pending (s : State) : s.ground.pending = s.pending := rfl

/-- The settling after an event leaves the trip sources, so what a cause or a clearing made of them stands. -/
theorem State.reconcile_trips (s : State) : s.reconcile.trips = s.trips := by
  rw [← State.ground_trips, State.reconcile_ground, State.ground_trips]

/-- The settling after an event leaves the link, so a reply that is formed stands. -/
theorem State.reconcile_link (s : State) : s.reconcile.link = s.link := by
  rw [← State.ground_link, State.reconcile_ground, State.ground_link]

/-- The settling after an event leaves the working settings. -/
theorem State.reconcile_work (s : State) : s.reconcile.work = s.work := by
  rw [← State.ground_work, State.reconcile_ground, State.ground_work]

/-- The settling after an event leaves the lock. -/
theorem State.reconcile_lock (s : State) : s.reconcile.lock = s.lock := by
  rw [← State.ground_lock, State.reconcile_ground, State.ground_lock]

/-- The settling after an event leaves the lines. -/
theorem State.reconcile_lines (s : State) : s.reconcile.lines = s.lines := by
  rw [← State.ground_lines, State.reconcile_ground, State.ground_lines]

/-- The settling after an event leaves the Settings Store. -/
theorem State.reconcile_store (s : State) : s.reconcile.store = s.store := by
  rw [← State.ground_store, State.reconcile_ground, State.ground_store]

/-- The settling after an event leaves the commands that wait. -/
theorem State.reconcile_pending (s : State) : s.reconcile.pending = s.pending := by
  rw [← State.ground_pending, State.reconcile_ground, State.ground_pending]

end Sys2Proof.Machine
end

