-- ==== Sys2Proof/Laws/Link.lean ====
section
/-! SUPPORT. The laws of the Console Link: what the transmitter's decision can do, and that a request which the link takes at once is
answered and leaves what its answer leaves. -/

namespace Sys2Proof.Machine

open Sys2Proof

/-! ## The transmitter (R198) -/

/-- A busy transmitter decides nothing. -/
theorem State.arbitrate_busy {s : State} (h : s.link.sending.isSome = true) : s.arbitrate = s := by
  unfold State.arbitrate
  cases hs : s.link.sending with
  | none => simp [hs] at h
  | some f => rfl

/-- Starting a reply changes the link alone. -/
theorem State.sendReply_link (s : State) (r : Reply) : s.sendReply r = { s with link := (s.sendReply r).link } := by
  unfold State.sendReply
  split <;> rfl

/-- An idle transmitter that starts a reply changes the link alone. -/
theorem State.kick_link (s : State) : s.kick = { s with link := s.kick.link } := by
  unfold State.kick
  split
  · rw [State.sendReply_link]
  · rfl

/-- The transmitter's decision changes the link, and of the notices the flag of the one it sends. -/
theorem State.arbitrate_link (s : State) : s.arbitrate = { s with link := s.arbitrate.link, notices := s.arbitrate.notices } := by
  unfold State.arbitrate
  split
  · rfl
  · split
    · rw [State.kick_link]
    · split <;> rfl

/-- A transmitter that is busy, or finds a reply in the queue, leaves the notices alone. -/
theorem State.arbitrate_reply {s : State} (h : s.link.sending.isSome = true ∨ s.link.replies ≠ []) :
    s.arbitrate = { s with link := s.arbitrate.link } := by
  unfold State.arbitrate
  cases hs : s.link.sending with
  | some f => rfl
  | none =>
    cases hr : s.link.replies with
    | nil => simp [hs, hr] at h
    | cons x xs => exact State.kick_link s

/-- With nothing to send, the transmitter stays idle. -/
theorem State.arbitrate_idle {s : State} (hs : s.link.sending = none) (hr : s.link.replies = []) (hn : s.notices.next = none) :
    s.arbitrate = s := by
  simp [State.arbitrate, hs, hr, hn]

/-! ## A request that is taken at once (R196) -/

/-- A reply that joins a queue with room, in a state whose link is `l`, leaves a link `m` in which it is the newest reply, whatever the
other blocks do meanwhile and whatever the transmitter decides then. -/
theorem State.reply_queued (s : State) {l : Link} (r : Reply) {p : List Byte} {ps : List (List Byte)} (hp : r.parts = p :: ps)
    (hw : l.waiting = none) :
    ∃ m, ({ s with link := { l with replies := l.replies ++ [r] } }).kick = { s with link := m }
      ∧ ∀ u : State, u.link = m →
        u.arbitrate.newestReply = some (r.kind, r.tag, p) ∧ u.arbitrate = { u with link := u.arbitrate.link } := by
  refine ⟨_, State.kick_link _, ?_⟩
  intro u hu
  cases hs : l.sending with
  | some f =>
    simp [State.kick, hs] at hu
    exact ⟨by simp [State.arbitrate, hu, State.newestReply, hw, hp], State.arbitrate_reply (by simp [hu])⟩
  | none =>
    cases hr : l.replies with
    | nil =>
      simp [State.kick, State.sendReply, hs, hr, hp] at hu
      exact ⟨by simp [State.arbitrate, hu, State.newestReply, hw], State.arbitrate_reply (by simp [hu])⟩
    | cons x xs =>
      cases hx : x.parts with
      | cons q qs =>
        simp [State.kick, State.sendReply, hs, hr, hx] at hu
        exact ⟨by simp [State.arbitrate, hu, State.newestReply, hw, hp], State.arbitrate_reply (by simp [hu])⟩
      | nil =>
        simp [State.kick, State.sendReply, hs, hr, hx] at hu
        refine ⟨?_, State.arbitrate_reply (by simp [hu])⟩
        cases xs with
        | nil => simp [State.arbitrate, State.kick, State.sendReply, hu, hp, State.newestReply, hw]
        | cons y ys => cases hy : y.parts <;> simp [State.arbitrate, State.kick, State.sendReply, hu, hy, hp, State.newestReply, hw]

/-- The first bytes of a reply (R197). -/
def Answer.firstBytes (a : Answer) : List Byte :=
  if a.segmented then BitVec.ofNat 8 (16 + (pieces 15 a.body).length) :: a.body.take 118 else a.body

/-- A reply has at least one frame, which begins with the status (R197). -/
theorem Answer.reply_parts (a : Answer) (kind tag : Byte) :
    ∃ ps, (a.reply kind tag).parts = (statusByte a.status :: a.firstBytes) :: ps := by
  unfold Answer.reply Answer.firstBytes
  cases a.segmented with
  | false => exact ⟨[], rfl⟩
  | true =>
    simp only [if_true, segments]
    by_cases h : a.body.length ≤ 118
    · exact ⟨[], by simp [pieces, h, List.take_of_length_le h]⟩
    · simp [pieces, h, List.mapIdx_cons]

/-- A reply with room in the queue, the effects after it, and the transmitter's decision: the reply is the newest, and beside the link
nothing else changes than by those effects, which leave the link alone. -/
theorem State.offerReply_law (q : State) (r : Reply) (after : After) {p : List Byte} {ps : List (List Byte)} (hp : r.parts = p :: ps)
    (hw : q.link.waiting = none) (hn : q.link.replies.length < replyRoom)
    (hk : ∀ m, (({ q with link := m }).runAfter after).link = m) :
    ∃ m, ((q.offerReply r after).arbitrate).newestReply = some (r.kind, r.tag, p)
      ∧ (q.offerReply r after).arbitrate
        = { ({ q with link := m }).runAfter after with link := (q.offerReply r after).arbitrate.link } := by
  obtain ⟨m, hm, h⟩ := State.reply_queued q (l := q.link) r hp hw
  have e : q.offerReply r after = ({ q with link := m }).runAfter after := by
    unfold State.offerReply
    rw [if_pos hn, hm]
  rw [e]
  exact ⟨m, h _ (hk m)⟩

/-- The law of a request that the link takes at once (R196): its answer goes out as the newest reply, then its later effects come about,
and beside the link nothing else changes. The later effects leave the link alone. -/
theorem State.request_taken_after {s : State} {i : Instr} {a : State → Answer} {f : Frame} (hs : s.takesNow)
    (he : encodeFrame i = some f) (hl : (a s).st.link = s.link)
    (hk : ∀ m, (({ (a s).st with link := m }).runAfter (a s).after).link = m) :
    ∃ m, Replied (s.request i a) f.kind f.tag (a s).status (a s).firstBytes
      ∧ s.request i a = { ({ (a s).st with link := m }).runAfter (a s).after with link := (s.request i a).link } := by
  obtain ⟨hw, hr, hq, hn⟩ := hs
  have ht : s.linkTakes = true := by simp [State.linkTakes, hw, hr]
  have e : s.request i a = ((a s).deliver f.kind f.tag).arbitrate := by
    unfold State.request; rw [he]; simp [ht, hq]
  obtain ⟨ps, hp⟩ := (a s).reply_parts f.kind f.tag
  rw [e]
  unfold Answer.deliver
  dsimp only
  cases (a s).restarts with
  | false =>
    rw [if_neg (by simp)]
    exact State.offerReply_law (a s).st _ (a s).after hp (by rw [hl]; exact hw) (by rw [hl]; exact hn) hk
  | true =>
    rw [if_pos rfl]
    exact State.offerReply_law { (a s).st with link := { (a s).st.link with restarting := true } } _ (a s).after hp
      (by simpa [hl] using hw) (by simpa [hl] using hn) hk

/-- The law of a request that the link takes at once, whose answer has no later effects (R196). -/
theorem State.request_taken {s : State} {i : Instr} {a : State → Answer} {f : Frame} (hs : s.takesNow) (he : encodeFrame i = some f)
    (hl : (a s).st.link = s.link) (hf : (a s).after = .nothing) :
    Replied (s.request i a) f.kind f.tag (a s).status (a s).firstBytes
      ∧ s.request i a = { (a s).st with link := (s.request i a).link } := by
  obtain ⟨m, h1, h2⟩ := State.request_taken_after hs he hl (by intro m; rw [hf]; rfl)
  refine ⟨h1, ?_⟩
  rw [hf] at h2
  exact h2

/-- A command whose meaning is such a request is answered so. -/
theorem answered_of_request {s : State} {i : Instr} {a : State → Answer} {kind tag : Byte} {p : List Byte} {u : State} {st : Status}
    {b : List Byte} (hs : s.takesNow) (ha : a s = { status := st, body := b, st := u }) (hx : exec i s = .next (s.request i a))
    (he : encodeFrame i = some ⟨kind, tag, p⟩) (hl : u.link = s.link) : Answered i s kind tag st b u := by
  obtain ⟨h1, h2⟩ := State.request_taken (a := a) hs he (by rw [ha]; exact hl) (by rw [ha])
  rw [ha] at h1 h2
  exact ⟨_, hx, h1, h2⟩

/-- A request that arrives while an earlier one still waits for its reply joins the queue, or is discarded where the queue is full
(R195, R196). -/
theorem State.request_waits {s : State} {i : Instr} {a : State → Answer} {f : Frame} (hs : s.linkTakes = false)
    (he : encodeFrame i = some f) : s.request i a = (s.joinQueue f).arbitrate := by
  have hj : (s.joinQueue f).linkTakes = false := by
    unfold State.joinQueue; split
    · simpa [State.linkTakes] using hs
    · exact hs
  have hp : ∀ n, (s.joinQueue f).pump n = s.joinQueue f := by
    intro n; cases n <;> simp [State.pump, hj]
  unfold State.request; rw [he]; simp [hs, State.takeFrames, hp]

end Sys2Proof.Machine
end

