-- ==== Sys2Proof/Laws/PerInstr.lean ====
section
/-! SUPPORT. Every request fits a frame of the console line: one lemma for each command. -/

namespace Sys2Proof.Laws.FrameFits

open Sys2Proof

/-- The frame of a well-formed request carries at most 120 bytes of payload (R193). -/
def Statement (i : Instr) : Prop := i.wellFormed = true → ∀ f, encodeFrame i = some f → f.payload.length ≤ 120

/-- A request of a fixed frame fits as soon as that frame does. -/
theorem of_frame {i : Instr} {g : Frame} (h : encodeFrame i = some g) (hg : Nat.ble g.payload.length 120 = true) : Statement i := by
  intro _ f hf
  rw [h] at hf
  injection hf with e
  rw [← e]; exact Nat.le_of_ble_eq_true hg

/-- An event has no frame. -/
theorem of_event {i : Instr} (h : encodeFrame i = none) : Statement i := by
  intro _ f hf
  rw [h] at hf
  contradiction

theorem powerOn : Statement (.powerOn) := of_event rfl
theorem resetLine : Statement (.resetLine) := of_event rfl
theorem byteReceived (b : Byte) : Statement (.byteReceived b) := of_event rfl
theorem receiveGap : Statement (.receiveGap) := of_event rfl
theorem lineFault : Statement (.lineFault) := of_event rfl
theorem unknownKindFrame (kind tag : Byte) (payload : List Byte) : Statement (.unknownKindFrame kind tag payload) := by
  intro h f hf
  simp only [encodeFrame, Option.some.injEq] at hf
  simp only [Instr.wellFormed, Bool.and_eq_true, decide_eq_true_eq] at h
  rw [← hf]
  exact h.1
theorem frameSent : Statement (.frameSent) := of_event rfl
theorem ident (tag : Byte) : Statement (.ident tag) := of_frame rfl rfl
theorem restart (tag : Byte) : Statement (.restart tag) := of_frame rfl rfl
theorem save (tag : Byte) : Statement (.save tag) := of_frame rfl rfl
theorem saveComplete : Statement (.saveComplete) := of_event rfl
theorem siteStore (tag number : Byte) (lat lon alt : Quad) (pol beaconFloor beaconCeiling : Half) (name : List Byte) : Statement (.siteStore tag number lat lon alt pol beaconFloor beaconCeiling name) := by
  intro h f hf
  simp only [encodeFrame, Option.some.injEq] at hf
  simp only [Instr.wellFormed, decide_eq_true_eq] at h
  rw [← hf]
  simp [quadBytes, halfBytes]
  omega
theorem siteErase (tag number : Byte) : Statement (.siteErase tag number) := of_frame rfl rfl
theorem siteRead (tag number : Byte) : Statement (.siteRead tag number) := of_frame rfl rfl
theorem fix (tag : Byte) (lat lon alt : Quad) (headingFlag : Byte) (heading : Half) : Statement (.fix tag lat lon alt headingFlag heading) := of_frame rfl rfl
theorem solve (tag site extFlag : Byte) (ext : Half) : Statement (.solve tag site extFlag ext) := of_frame rfl rfl
theorem aim (tag site : Byte) : Statement (.aim tag site) := of_frame rfl rfl
theorem solutionRead (tag : Byte) : Statement (.solutionRead tag) := of_frame rfl rfl
theorem mapWrite (tag layer first count attr : Byte) (height : Half) : Statement (.mapWrite tag layer first count attr height) := of_frame rfl rfl
theorem mapRead (tag layer first count : Byte) : Statement (.mapRead tag layer first count) := of_frame rfl rfl
theorem ceilingSet (tag : Byte) (height : Half) : Statement (.ceilingSet tag height) := of_frame rfl rfl
theorem stowAzimuth (tag : Byte) (z : Half) : Statement (.stowAzimuth tag z) := of_frame rfl rfl
theorem bodyLock (tag : Byte) : Statement (.bodyLock tag) := of_frame rfl rfl
theorem violationRead (tag : Byte) : Statement (.violationRead tag) := of_frame rfl rfl
theorem violationAck (tag : Byte) : Statement (.violationAck tag) := of_frame rfl rfl
theorem axisTarget (tag axis : Byte) (position : Half) : Statement (.axisTarget tag axis position) := of_frame rfl rfl
theorem axisMoment (tag axis moment : Byte) : Statement (.axisMoment tag axis moment) := of_frame rfl rfl
theorem sync (tag : Byte) : Statement (.sync tag) := of_frame rfl rfl
theorem axisStop (tag axis : Byte) : Statement (.axisStop tag axis) := of_frame rfl rfl
theorem jog (tag axis direction speed : Byte) : Statement (.jog tag axis direction speed) := of_frame rfl rfl
theorem jogDeadmanExpiry (axis : Axis) : Statement (.jogDeadmanExpiry axis) := of_event rfl
theorem home (tag axis : Byte) : Statement (.home tag axis) := of_frame rfl rfl
theorem stow (tag : Byte) : Statement (.stow tag) := of_frame rfl rfl
theorem axisRead (tag axis : Byte) : Statement (.axisRead tag axis) := of_frame rfl rfl
theorem slewSet (tag axis slewClass : Byte) : Statement (.slewSet tag axis slewClass) := of_frame rfl rfl
theorem indexSet (tag axis : Byte) (position : Half) : Statement (.indexSet tag axis position) := of_frame rfl rfl
theorem axisEncoderMove (axis : Axis) (delta : Half) : Statement (.axisEncoderMove axis delta) := of_event rfl
theorem axisSettleDone (axis : Axis) : Statement (.axisSettleDone axis) := of_event rfl
theorem axisStallTimeout (axis : Axis) : Statement (.axisStallTimeout axis) := of_event rfl
theorem mastTo (tag : Byte) (height : Half) : Statement (.mastTo tag height) := of_frame rfl rfl
theorem mastLower (tag : Byte) : Statement (.mastLower tag) := of_frame rfl rfl
theorem mastStop (tag : Byte) : Statement (.mastStop tag) := of_frame rfl rfl
theorem mastRead (tag : Byte) : Statement (.mastRead tag) := of_frame rfl rfl
theorem mastParam (tag name : Byte) (value : Half) : Statement (.mastParam tag name value) := of_frame rfl rfl
theorem mastEncoderCount (up : Bool) : Statement (.mastEncoderCount up) := of_event rfl
theorem mastSettleDone : Statement (.mastSettleDone) := of_event rfl
theorem mastStallTimeout : Statement (.mastStallTimeout) := of_event rfl
theorem conversion (channel : Channel) (count : BitVec 12) : Statement (.conversion channel count) := of_event rfl
theorem lineRawChange (line : Line) (level : Bool) : Statement (.lineRawChange line level) := of_event rfl
theorem debounceExpiry (line : Line) : Statement (.debounceExpiry line) := of_event rfl
theorem anemometerPulse (sinceUs : Nat) : Statement (.anemometerPulse sinceUs) := of_event rfl
theorem gateEnd : Statement (.gateEnd) := of_event rfl
theorem senseRead (tag : Byte) : Statement (.senseRead tag) := of_frame rfl rfl
theorem calSet (tag item : Byte) (value : Half) : Statement (.calSet tag item value) := of_frame rfl rfl
theorem limitSet (tag : Byte) (tiltLimit supplyLow : Half) : Statement (.limitSet tag tiltLimit supplyLow) := of_frame rfl rfl
theorem windSet (tag : Byte) (gateLength windRun windLimit : Half) : Statement (.windSet tag gateLength windRun windLimit) := of_frame rfl rfl
theorem releaseTimerExpiry (source : Source) : Statement (.releaseTimerExpiry source) := of_event rfl
theorem tripConfig (tag source enable mode : Byte) (delay : Half) (raising lowering rest positioner transmit : Byte) : Statement (.tripConfig tag source enable mode delay raising lowering rest positioner transmit) := of_frame rfl rfl
theorem tripRead (tag : Byte) : Statement (.tripRead tag) := of_frame rfl rfl
theorem tripClear (tag : Byte) (sources : Half) : Statement (.tripClear tag sources) := of_frame rfl rfl
theorem search (tag kind origin site : Byte) : Statement (.search tag kind origin site) := of_frame rfl rfl
theorem searchDwellDone : Statement (.searchDwellDone) := of_event rfl
theorem searchAbort (tag : Byte) : Statement (.searchAbort tag) := of_frame rfl rfl
theorem searchRead (tag : Byte) : Statement (.searchRead tag) := of_frame rfl rfl
theorem searchParam (tag profile : Byte) (initialStep minStep margin dwell : Half) (samples budget : Byte) (radius : Half) : Statement (.searchParam tag profile initialStep minStep margin dwell samples budget radius) := of_frame rfl rfl
theorem track (tag choice : Byte) (interval : Half) : Statement (.track tag choice interval) := of_frame rfl rfl
theorem trackExpiry : Statement (.trackExpiry) := of_event rfl
theorem reportExpiry : Statement (.reportExpiry) := of_event rfl
theorem txRequest (tag choice : Byte) : Statement (.txRequest tag choice) := of_frame rfl rfl
theorem txRead (tag : Byte) : Statement (.txRead tag) := of_frame rfl rfl
theorem deploy (tag site : Byte) (height options interval : Half) : Statement (.deploy tag site height options interval) := of_frame rfl rfl
theorem deployRaiseIssue : Statement (.deployRaiseIssue) := of_event rfl
theorem deploySearchIssue : Statement (.deploySearchIssue) := of_event rfl
theorem txWaitTimeout : Statement (.txWaitTimeout) := of_event rfl
theorem stowAll (tag : Byte) : Statement (.stowAll tag) := of_frame rfl rfl
theorem halt (tag : Byte) : Statement (.halt tag) := of_frame rfl rfl
theorem seqRead (tag : Byte) : Statement (.seqRead tag) := of_frame rfl rfl
theorem noticeMask (tag : Byte) (kinds : Half) : Statement (.noticeMask tag kinds) := of_frame rfl rfl
theorem hush (tag : Byte) : Statement (.hush tag) := of_frame rfl rfl
theorem unhush (tag : Byte) : Statement (.unhush tag) := of_frame rfl rfl
theorem pendingClear (tag : Byte) (kinds : Half) : Statement (.pendingClear tag kinds) := of_frame rfl rfl
theorem timerSet (tag timer mode : Byte) (interval : Half) : Statement (.timerSet tag timer mode interval) := of_frame rfl rfl
theorem timerRead (tag timer : Byte) : Statement (.timerRead tag timer) := of_frame rfl rfl

end Sys2Proof.Laws.FrameFits
end

