-- ==== Sys2Proof/Laws/Plant.lean ====
section
/-! SUPPORT. The laws of the plant: in a calm plant nothing happens of its own accord, and a calm plant stays calm under what does not
concern the mast, the trips and the gate. -/

namespace Sys2Proof.Machine

open Sys2Proof

/-- A steady mast goes on as it is (R86, R88, R89, R92, R93). -/
theorem State.mastAdvance_steady {s : State} (h : s.mastSteady = true) : s.mastAdvance = (s, none) := by
  unfold State.mastSteady at h
  unfold State.mastAdvance
  cases hm : s.mast.state <;> simp only [hm] at h ⊢ <;> simp_all
  case lowering =>
    split
    · simp_all
    · rw [if_neg (by omega)]
  case nudging =>
    split
    · simp_all
    · first
      | (simp_all; done)
      | (simp_all; intro h1; omega)
  case clearWait =>
    intro h1 h2 h3; simp_all

/-- With no combined action the mast is left as it is, unless it is held (R95, R96). -/
theorem State.mastEnact_quiet {s : State} (ha : s.action = {}) (hm : s.mast.state ≠ .held) : s.mastEnact = s := by
  unfold State.mastEnact Mast.situation
  cases h : s.mast.state <;> simp_all
  cases s.mast.nudgeUp <;> simp

/-- A steady mast is not held. -/
theorem State.mastSteady_not_held {s : State} (h : s.mastSteady = true) : s.mast.state ≠ .held := by
  intro hm; simp [State.mastSteady, hm] at h

/-- With the request clear and the gate off, the gate stays off (R171). -/
theorem State.gateSync_off {s : State} (hr : s.gate.request = false) (ho : s.gate.state = .off) : s.gateSync = s := by
  have hf : s.gateForm = s := by simp [State.gateForm, State.gateVerdict, hr, ho]
  unfold State.gateSync
  rw [hf]; simp

/-- A plant between two equal states has not been taken by a trip. -/
theorem State.tripTook_same (s t : State) (hp : t.pos.owner = s.pos.owner) (hm : t.mast.owner = s.mast.owner) : s.tripTook t = t := by
  unfold State.tripTook
  rw [hp, hm, if_neg]
  rintro (⟨h1, h2⟩ | ⟨h1, h2⟩) <;> contradiction

/-- What a calm plant is, one part at a time. -/
theorem State.Calm.action {s : State} (h : s.Calm) : s.action = {} := h.1

/-- A calm plant has enacted no positioner action. -/
theorem State.Calm.enacted {s : State} (h : s.Calm) : s.pos.enacted = .noAction := h.2.1

/-- A calm positioner is not the trip's. -/
theorem State.Calm.owner {s : State} (h : s.Calm) : s.pos.owner ≠ .trip := h.2.2.1

/-- In a calm plant the transmit request is clear. -/
theorem State.Calm.request {s : State} (h : s.Calm) : s.gate.request = false := h.2.2.2.1

/-- In a calm plant the gate is off. -/
theorem State.Calm.off {s : State} (h : s.Calm) : s.gate.state = .off := h.2.2.2.2.1

/-- A calm mast goes on as it is. -/
theorem State.Calm.mast {s : State} (h : s.Calm) : s.mastSteady = true := h.2.2.2.2.2

/-- In a calm plant one round changes nothing. -/
theorem State.round_calm {s : State} (h : s.Calm) : s.round = s := by
  have h1 := State.mastAdvance_steady h.mast
  have h2 := State.mastEnact_quiet h.action (State.mastSteady_not_held h.mast)
  have h3 : s.posEnact = s := by simp [State.posEnact, h.action, h.enacted]
  have h4 : s.posReturn = s := by simp [State.posReturn, h.owner]
  unfold State.round
  simp only [h1, handMast, h2, h3, State.tripTook_same s s rfl rfl, h4, State.gateSync_off h.request h.off]

/-- In a calm plant nothing happens of its own accord. -/
theorem State.reconcile_calm {s : State} (h : s.Calm) : s.reconcile = s := by
  simp only [State.reconcile, State.round_calm h]

/-- A steady mast stays steady under whatever leaves the mast, its settings, the ceiling, the lines and the trips alone. -/
theorem State.mastSteady_carry {s t : State} (hm : t.mast = s.mast) (hw : t.work.mast = s.work.mast)
    (hc : t.work.map.ceiling = s.work.map.ceiling) (hl : t.lines = s.lines) (ht : t.trips = s.trips) :
    t.mastSteady = s.mastSteady := by
  simp only [State.mastSteady, State.sagging, State.raiseDone, State.mustPause, State.pausePoint, State.leadNow, State.windowClosed,
    State.extension, State.raiseLimit, State.action, hm, hw, hc, hl, ht]
  rfl

/-- A calm plant stays calm under whatever leaves the mast, its settings, the ceiling, the lines, the trips, the gate and the
positioner's owner alone. -/
theorem State.Calm.carry {s t : State} (h : s.Calm) (hm : t.mast = s.mast) (hw : t.work.mast = s.work.mast)
    (hc : t.work.map.ceiling = s.work.map.ceiling) (hl : t.lines = s.lines) (ht : t.trips = s.trips) (hg : t.gate = s.gate)
    (he : t.pos.enacted = s.pos.enacted) (ho : t.pos.owner = s.pos.owner) : t.Calm :=
  ⟨by rw [State.action, ht]; exact h.action, by rw [he]; exact h.enacted, by rw [ho]; exact h.owner, by rw [hg]; exact h.request,
    by rw [hg]; exact h.off, by rw [State.mastSteady_carry hm hw hc hl ht]; exact h.mast⟩

/-- A calm plant stays calm under a new record of an axis. -/
theorem State.Calm.setAxis {s : State} (h : s.Calm) (a : Axis) (x : AxisRec) : (s.setAxis a x).Calm :=
  h.carry rfl rfl rfl rfl rfl rfl (by simp) (by simp)

/-- A calm plant stays calm under a raise. -/
theorem State.Calm.raise {s : State} (h : s.Calm) (k : Notice) : (s.raise k).Calm := h.carry rfl rfl rfl rfl rfl rfl rfl rfl

/-! ## What the shared motions do -/

/-- An axis that goes on in its motion and its direction is left, its stall mark included (R64). -/
theorem AxisRec.run_on {x : AxisRec} {m : Motion} {up : Bool} (hm : x.motion = m) (hu : x.driveUp = up) : x.run m up = x := by
  simp [AxisRec.run, hm, hu]

/-- An axis that enters a motion or reverses gets a new stall mark (R64). -/
theorem AxisRec.run_anew {x : AxisRec} {m : Motion} {up : Bool} (h : ¬ (x.motion = m ∧ x.driveUp = up)) :
    x.run m up = { x with motion := m, driveUp := up, progress := 0, stallTimer := some axisStallMs } := by
  simp [AxisRec.run, AxisRec.driven, h]

/-- A running axis runs in the motion and the direction asked for, and keeps its position and its reference. -/
theorem AxisRec.run_spec (x : AxisRec) (m : Motion) (up : Bool) :
    (x.run m up).motion = m ∧ (x.run m up).driveUp = up ∧ (x.run m up).position = x.position
      ∧ (x.run m up).referenced = x.referenced := by
  unfold AxisRec.run AxisRec.driven
  split
  · rename_i h; exact ⟨h.1, h.2, rfl, rfl⟩
  · exact ⟨rfl, rfl, rfl, rfl⟩

/-- A failure's stop brings a moving axis to a stand in the hands of the sequence (R187). -/
theorem State.failStop_moving {s : State} {a : Axis} (h : moving (s.axis a) = true) :
    s.failStop a = s.setAxis a { standing (s.axis a) .stopped with origin := .sequence } := by
  simp [State.failStop, h]

/-- A failure's stop leaves an axis that stands (R187). -/
theorem State.failStop_still {s : State} {a : Axis} (h : moving (s.axis a) = false) : s.failStop a = s := by
  simp [State.failStop, h]

/-- A lowering to the nest asked for in CLEAR_WAIT keeps waiting while the stow window is open (R98). -/
theorem State.lowerToNest_waits {s : State} (hm : s.mast.state = .clearWait) (hw : s.windowClosed = false) :
    s.lowerToNest
      = { s with mast := { s.mast with
          stopCount := (s.mast.target + s.work.mast.stopLead) / 2, leadInUse := s.work.mast.stopLead, compressor := false, vent := false
          settleTimer := none, stallTimer := none, waitsForNudge := false } } := by
  simp [State.lowerToNest, State.putMast, Mast.wait, Mast.stand, stopCountDown, hm, hw]

/-- A lowering to the nest asked for in another state, or with the window closed, starts as every lowering does (R88, R98). -/
theorem State.lowerToNest_starts {s : State} (h : s.mast.state ≠ .clearWait ∨ s.windowClosed = true) :
    s.lowerToNest = s.startLowering := by
  unfold State.lowerToNest
  rw [if_neg]
  rintro ⟨h1, h2⟩
  rcases h with h | h
  · exact h h1
  · rw [h2] at h; exact absurd h (by decide)

/-- A new raise limit under a lowering brings its target down, with the stop count formed from it and the lead that the lowering
read, and leaves a target that lies at or below it (R87, R88). -/
theorem State.limitHanded_lowering {s : State} {old : Nat} (hm : s.mast.state = .lowering) (hl : s.raiseLimit ≠ old) :
    s.limitHanded old
      = if s.mast.target ≤ s.raiseLimit then s
        else { s with mast := { s.mast with
          target := s.raiseLimit, stopCount := (s.raiseLimit + s.mast.leadInUse) / 2 } } := by
  by_cases h : s.mast.target ≤ s.raiseLimit
  · simp [State.limitHanded, hl, hm, Mast.situation, h]
    rw [← hm]
  · have h1 : min s.mast.target s.raiseLimit = s.raiseLimit := by omega
    have h2 : s.raiseLimit ≠ s.mast.target := by omega
    simp [State.limitHanded, hl, hm, Mast.situation, h, h1, h2, stopCountDown]

end Sys2Proof.Machine
end

