-- ==== Sys2Proof/Laws/Solver.lean ====
section
/-! SUPPORT. The laws of the solution arithmetic: what each part of a computation leaves of the record. -/

namespace Sys2Proof.Machine

open Sys2Proof

@[simp] theorem stagesFrom_site (i : SolveInputs) (f : Fix) (r : Site) (n e : Int) (d : Nat) :
    (stagesFrom i f r n e d).site = i.siteNumber := rfl

/-- The record names the site that the request named, refused or not (R15). -/
@[simp] theorem geometry_site (i : SolveInputs) : (geometry i).site = i.siteNumber := by
  simp only [geometry]
  cases i.fix with
  | none => rfl
  | some f =>
    cases i.site with
    | none => dsimp only; split <;> rfl
    | some r =>
      dsimp only
      simp only [apply_ite Solution.site, stagesFrom_site, solutionHead, ite_self]

/-- The record names the site that the request named (R15). -/
@[simp] theorem solve_site (i : SolveInputs) : (solve i).site = i.siteNumber := by
  have hf : ∀ i q, (finishSolution i q).site = q.site := fun _ _ => rfl
  simp only [solve, apply_ite Solution.site, hf, ite_self, geometry_site]

/-- Stages 7 and 8 leave the status of the record. -/
@[simp] theorem finishSolution_status (i : SolveInputs) (q : Solution) : (finishSolution i q).status = q.status := rfl

/-- A solution is VALID exactly when its first six stages are. -/
theorem solve_status (i : SolveInputs) : (solve i).status = (geometry i).status := by
  simp only [solve, apply_ite Solution.status, finishSolution_status, ite_self]

/-- A VALID solution is its first six stages with stages 7 and 8. -/
theorem solve_valid {i : SolveInputs} (h : (solve i).status = .valid) : solve i = finishSolution i (geometry i) := by
  rw [solve_status] at h
  simp only [solve, if_pos h]

end Sys2Proof.Machine
end

