-- ==== Sys2Proof/Laws/Trips.lean ====
section
/-! SUPPORT. The laws of the Trip Unit: what a cause, a detection and a clearing make of the sources, and what a combined action without a
contributor is. -/

namespace Sys2Proof.Machine

open Sys2Proof

/-- A cause that does not change hands nothing on (R124). -/
theorem State.setCause_same {s : State} {n : Source} {b : Bool} (h : (s.trips.source n).cause = b) : s.setCause n b = s := by
  unfold State.setCause
  simp [h]

/-- A disabled source only records its cause (R124). -/
theorem State.setCause_disabled {s : State} {n : Source} {b : Bool} (h : (s.trips.source n).config.enabled = false) :
    s.setCause n b = s.setSource n { s.trips.source n with cause := b } := by
  unfold State.setCause
  by_cases hb : (s.trips.source n).cause = b
  · subst hb
    simp only [if_true]
    cases n <;> rfl
  · simp [hb, h]

/-- A cause that appears at an enabled CLEAR source makes it ACTIVE and raises TRIP (R124). -/
theorem State.setCause_appears {s : State} {n : Source} (he : (s.trips.source n).config.enabled = true)
    (hc : (s.trips.source n).cause = false) (hs : (s.trips.source n).state = .clear) :
    s.setCause n true = (s.setSource n { s.trips.source n with cause := true, state := .active }).raise .trip := by
  unfold State.setCause appear
  simp [he, hc, hs]

/-- A momentary cause at a CLEAR source latches it and raises TRIP (R126). -/
theorem State.detect_clear {s : State} {n : Source} {a : Option Axis} (hs : (s.trips.source n).state = .clear) :
    s.detect n a
      = (s.setSource n
          { s.trips.source n with
            state := .latchedWait
            axes := match a with | none => (s.trips.source n).axes | some x => (s.trips.source n).axes.set x true }).raise .trip := by
  cases a <;> simp [State.detect, hs]

/-- A momentary cause at a source that is not CLEAR only names its axis (R126). -/
theorem State.detect_standing {s : State} {n : Source} {a : Option Axis} (hs : (s.trips.source n).state ≠ .clear) :
    s.detect n a
      = s.setSource n
          { s.trips.source n with
            axes := match a with | none => (s.trips.source n).axes | some x => (s.trips.source n).axes.set x true } := by
  cases a <;> unfold State.detect <;> dsimp only <;> split <;> first | rfl | (rename_i h; exact absurd h hs)

/-- A cause changes the sources and the notices, and nothing else (R124). -/
theorem State.setCause_frame (s : State) (n : Source) (b : Bool) :
    s.setCause n b = { s with trips := (s.setCause n b).trips, notices := (s.setCause n b).notices } := by
  unfold State.setCause appear release
  dsimp only
  (repeat' split) <;> rfl

/-- A source that contributes gives the combined action a mast-raising entry, so an empty combined action has no contributor (R129). -/
theorem worseRaising_some (c : Option RaisingChoice) (x : RaisingChoice) : (worseRaising c x).isSome = true := by
  cases c with
  | none => cases x <;> rfl
  | some y => cases y <;> cases x <;> rfl

end Sys2Proof.Machine
end

