-- ==== Sys2Proof/Tests/Slice0.lean ====
section
/-! SUPPORT. Tests: the well-formedness smoke, frames written out from the layouts of the manual, figures of the manual's worked cases, and
for each statement a state and operands that meet its hypotheses. -/

namespace Sys2Proof.Tests

open Sys2Proof Sys2Proof.Machine

-- one theorem after another: the witnesses elaborated side by side take more memory than the check allows
set_option Elab.async false

/-! ## The states of the tests -/

/-- A site of the tests. -/
def siteOne : Site :=
  { number := 1, name := [65], lat := 400100000, lon := 300000, alt := 100, pol := 9000, beaconFloor := 1000, beaconCeiling := 4095
    learned := none }

/-- A referenced axis at rest at 0. -/
def parked : AxisRec := { referenced := true, motion := .rest }

/-- A van with its mast at rest at 10 m, its axes referenced and at rest, one site and a fix. -/
def up : State :=
  { State.reset with
    sites := [siteOne]
    fix := some { lat := 400000000, lon := 0, alt := 50, heading := 100, headingPresent := true, number := 7 }
    fixNumber := 7
    pos := { pan := parked, tilt := parked, pol := parked }
    mast := { counter := 5000, referenced := true, state := .rest, target := 10000 }
    lines := { brake := { raw := true, level := true }, pressure := { raw := true, level := true } } }

/-- The same with another pan. -/
def panned (x : AxisRec) : State := up.setAxis .pan x

/-- The same with another tilt. -/
def tilted (x : AxisRec) : State := up.setAxis .tilt x

/-- The same with another mast. -/
def masted (m : Mast) : State := { up with mast := m }

/-- The same with other lines. -/
def lined (l : Lines) : State := { up with lines := l }

/-- The same with another update moment of the pan. -/
def momented (m : Moment) : State := up.setAxisSettings .pan { up.axisSettings .pan with moment := m }

/-- The mast below the clearance height. -/
def low : State := masted { counter := 899, referenced := true, state := .rest, target := 1798 }

/-- A mast on its way up. -/
def raising : State :=
  masted { up.mast with state := .raising, target := 15000, stopCount := 7470, leadInUse := 60, compressor := true }

/-- A mast on its way down to the nest. -/
def lowering : State := masted { up.mast with state := .lowering, target := 0, stopCount := 30, leadInUse := 60, vent := true }

/-- A nested mast. -/
def nested : State :=
  { lined { up.lines with nest := { raw := true, level := true } } with mast := { referenced := true, state := .nested } }

/-- A state with every sector but the stow sector BLOCKED in the survey layer. -/
def walled (s : State) : State :=
  { s with work := { s.work with map := { s.work.map with survey := writeRun 37 71 { attr := .blocked } s.work.map.survey } } }

/-- An ESTOP that stands. -/
def stopped : State := { up with trips := { up.trips with estop := { up.trips.estop with state := .active, cause := true } } }

/-- An ESTOP that waits to be cleared. -/
def latched : State := { up with trips := { up.trips with estop := { up.trips.estop with state := .latchedWait } } }

/-- WIND in release. -/
def windy : State := { up with trips := { up.trips with wind := { up.trips.wind with state := .releasing, timer := 300 } } }

/-- WIND in release with a LATCHED configuration staged. -/
def windyStaged : State :=
  { up with trips := { up.trips with
      wind := { up.trips.wind with state := .releasing, staged := some { up.trips.wind.config with mode := .latched } } } }

/-- The five configurable sources disabled. -/
def quiet : State :=
  let off (r : SourceRec) : SourceRec := { r with config := { r.config with enabled := false } }
  { up with trips := { up.trips with
      wind := off up.trips.wind, tilt := off up.trips.tilt, supply := off up.trips.supply, pressure := off up.trips.pressure
      aux := off up.trips.aux } }

/-- The same with a pitch close below its limit. -/
def tiltedQuiet : State :=
  { quiet with
    sense := { pitch := { filter := [3048], latest := 3048 } }
    work := { quiet.work with sense := { quiet.work.sense with pitchGain := 500 } } }

/-- The same with a count in both angle filters. -/
def measured : State := { quiet with sense := { pitch := { filter := [2100] }, roll := { filter := [2000] } } }

/-- A positioner that the sequence owns. -/
def owned : State := { up with pos := { up.pos with owner := .sequence } }

/-- A fix too far from the site. -/
def farOff : State :=
  { up with fix := some { lat := 0, lon := 0, alt := 50, heading := 100, headingPresent := true, number := 7 } }

/-- A running search in its dwell. -/
def searching : State :=
  { up with
    pos := { up.pos with owner := .search }
    search := { state := .measureCentre, kind := some .acquire, ownerBefore := some .console, measuring := .dwelling, dwellTimer := some 1 } }

/-- A state with tracking on and its timer running. -/
def tracked (s : State) : State :=
  { s with tracking := { enabled := true, site := some 1 }, trackTimer := { mode := .repeating, interval := 1 } }

/-- The pan at an index edge captured at a position. -/
def edged (at_ : Int) (x : AxisRec) : State :=
  { panned x with lines := { up.lines with panIndex := { raw := true, timer := some 0, captured := some (at_, true) } } }

/-- A deploy record. -/
def deployOne : DeployRec := { site := 1, height := 15000, search := true, tx := true, track := false, interval := 0 }

/-- A deploy whose MAST_TO is still to be issued. -/
def deployRaising : State :=
  { nested with
    pos := { nested.pos with owner := .sequence }
    mast := { nested.mast with owner := .sequence }
    seq := { state := .deployRaise, deploy := some deployOne } }

/-- A deploy whose SEARCH is still to be issued. -/
def deploySearching : State :=
  { owned with mast := { up.mast with owner := .sequence }, seq := { state := .deploySearch, deploy := some deployOne } }

/-- A deploy that waits for the permit. -/
def deployWaiting : State :=
  { owned with
    mast := { up.mast with owner := .sequence }
    gate := { request := true, state := .wait }
    seq := { state := .deployTx, deploy := some deployOne, txWait := some 0 } }

/-- A reply. -/
def answer : Reply := { kind := 0x81, tag := 1, parts := [[0]] }

/-- A frame being sent, the last of its reply. -/
def onePart : Sending := { frame := { kind := 0x81, tag := 1, payload := [0] } }

/-- A frame being sent, with another segment to come. -/
def twoParts : Sending := { onePart with rest := [[1]] }

/-- The reply to RESTART being sent. -/
def lastPart : Sending := { onePart with restarts := true }

/-- A transmitter with a segment to come. -/
def sendingTwo : State := { up with link := { sending := some twoParts } }

/-- A busy transmitter, with replies that wait. -/
def sendingOne (l : List Reply) : State := { up with link := { sending := some onePart, replies := l }, notices := { pending := 1 } }

/-- A reply that waits for a place. -/
def waitingOne : State :=
  { up with link :=
    { sending := some onePart, replies := [answer, answer, answer, answer], waiting := some (answer, .nothing) } }

/-- A RESTART whose reply is being sent. -/
def restarting : State := { up with link := { sending := some lastPart, restarting := true } }

/-- A save in flight. -/
def saving : State := { up with store := { up.store with snapshot := some factorySettings } }

/-- A lowering whose NEST line is about to close. -/
def nesting : State := { lined { up.lines with nest := { raw := true } } with mast := { lowering.mast with stopCount := 30 } }

/-- A full slot at ON_SYNC with the mast low. -/
def lowOnSync : State := { low with work := (momented .onSync).work }.setAxis .pan { parked with slot := some 5 }

/-- A nested mast without a fix. -/
def nestedUnfixed : State := { nested with fix := none }

/-- A nested mast whose NEST line is about to open. -/
def unnesting : State := { nested with lines := { nested.lines with nest := { level := true, timer := some 0 } } }

/-- A nested mast under the body lock. -/
def nestedLocked : State := { nested with lock := true }

/-- A sequence in STOW_MAST. -/
def stowing : State := { owned with seq := { state := .stowMast } }

/-- A gust counter at 1. -/
def gusty : State := { quiet with sense := { gust := 1 } }

/-- A busy transmitter with nothing to follow. -/
def silent : State := { sendingOne [] with notices := {} }

/-- Tracking without a site. -/
def siteless : State := { tracked up with sites := [] }

/-- No fix. -/
def unfixed : State := { up with fix := none }

/-- The permit given. -/
def permitted : State := { up with gate := { request := true, state := .on } }

/-- The body lock set. -/
def locked : State := { up with lock := true }

/-- Notices hushed. -/
def hushed : State := { up with notices := { hush := true, masks := 0xFF, savedMasks := 3 } }

/-- The REPORT timer running once. -/
def reportOnce : State := { up with report := { mode := .oneShot } }

/-- The REPORT timer repeating. -/
def reportAlways : State := { up with report := { mode := .repeating } }

/-- A measurement about to take its samples. -/
def sampling : State := { up with search := { measuring := .sampling [], profile := factoryTrack } }

/-- The TRACK timer running once, tracking off. -/
def trackOnce : State := { up with trackTimer := { mode := .oneShot } }

/-- The deploy that waits for the permit, its gate off. -/
def deployWaitingOff : State := { deployWaiting with gate := {} }

/-- A pan on its way to the end of its travel. -/
def slewingFar : State := panned { parked with motion := .slewing, target := 20000 }

/-- A pan that homes to its index position, begun while referenced. -/
def homing : State :=
  walled (panned { parked with motion := .homing, homing := some { begunReferenced := true, phase := .seek } })

/-- A pan that jogs, some way into its stall time. -/
def jogging : State := panned { parked with motion := .jogging, driveUp := true, progress := 3, stallTimer := some 700 }

/-- A mast below the clearance height that waits for the stow window. -/
def waiting : State := masted { low.mast with state := .clearWait }

/-- A mast that settles after a move. -/
def settling (target : Nat) (k : SettleKind) : State :=
  masted { up.mast with state := .settling, target := target, settleKind := k, settleTimer := some 1 }

/-- WIND that stands, its cause present, with a mode. -/
def windStands (m : TripMode) : State :=
  { up with trips := { up.trips with
      wind := { up.trips.wind with config := { up.trips.wind.config with mode := m }, state := .active, cause := true } } }

/-- A gust counter at 1, with WIND in a state. -/
def windAt (st : TripState) : State :=
  { up with sense := { up.sense with gust := 1 }, trips := { up.trips with wind := { up.trips.wind with state := st } } }

/-- The same with WIND CLEAR, and with other entries of its action record. -/
def windGives (s : State) (x : ActionRec) : State :=
  { s with
    sense := { s.sense with gust := 1 }
    trips := { s.trips with wind := { s.trips.wind with config := { s.trips.wind.config with action := x } } } }

/-- A calm plant of the console before the pulse that trips an enabled WIND. -/
abbrev Gusting (s : State) : Prop :=
  s.Calm ∧ s.search.state = .idle ∧ s.seq.state = .idle ∧ s.pos.owner = .console ∧ s.sense.gust = 1 ∧ s.work.sense.windLimit ≠ 0
    ∧ s.trips.wind.state = .clear ∧ s.trips.wind.cause = false ∧ s.trips.wind.config.enabled = true

/-- WIND in release, the last contributor, with the gate off. -/
abbrev Releasing (s : State) : Prop :=
  (s.trips.source .wind).state = .releasing ∧ ((s.trips.source .wind).staged.getD (s.trips.source .wind).config).mode = .selfClearing
    ∧ (s.setSource .wind
        { s.trips.wind with
          state := .clear, config := s.trips.wind.staged.getD s.trips.wind.config, staged := none, timer := 0, timerMs := 0, axes := {} }).action
      = {}
    ∧ s.gate.request = false ∧ s.gate.state = .off

/-- A search of the console that is about to complete a measurement of 16 counts. -/
abbrev Completing (s : State) : Prop :=
  s.Calm ∧ s.pos.owner = .search ∧ s.search.ownerBefore = some .console ∧ s.search.profile.samples ≤ 15 + 1
    ∧ s.pos.pan.referenced = true ∧ s.pos.tilt.referenced = true ∧ s.mastReady = true

/-- A search of the console whose pan is about to stand, with the tilt at rest. -/
abbrev Arriving (s : State) : Prop :=
  s.Calm ∧ s.pos.owner = .search ∧ s.search.ownerBefore = some .console ∧ s.search.measuring = .moving
    ∧ s.pos.pan.motion = .settling ∧ s.pos.pan.settleTimer.isSome = true ∧ s.pos.pan.origin = .search ∧ s.pos.pan.ending = .arrived
    ∧ s.pos.pan.referenced = true ∧ s.pos.pan.slot = none ∧ s.pos.tilt.motion = .rest

/-- The raise limit of the tests under a ceiling. -/
def limitUnder (h : Nat) : Nat := (up.withMap { up.work.map with ceiling := h }).raiseLimit

/-- An action record that stows the positioner and leaves the mast. -/
def stowsAlone : ActionRec := { raising := .stop, lowering := .goOn, rest := .noAction, positioner := .stow, transmit := .inhibit }

/-- An action record that lowers a mast at rest and leaves the positioner. -/
def lowersAlone : ActionRec := { raising := .lower, lowering := .goOn, rest := .lower, positioner := .noAction, transmit := .inhibit }

/-- A van with its mast nested, before a gust whose trip stows. -/
def stowFree : State := windGives nested stowsAlone

/-- A van with its mast high, before a gust whose trip lowers. -/
def lowerFree : State := windGives up lowersAlone

/-- The same with the mast low. -/
def lowerBarred : State := windGives low lowersAlone

/-- A van with its mast nested, whose pan is barred from pan 0, before a gust whose trip stows. -/
def stowBarred : State := windGives ((walled nested).setAxis .pan { parked with position := 20000 }) stowsAlone

/-- A search that is about to complete a measurement of 16 samples, with its counts. -/
def measuring (n : Nat) (q : Search) : State :=
  { up with
    sense := { up.sense with levelFloor := 1000, levelCeiling := 4095 }
    pos := { up.pos with owner := .search }
    search := { q with
      kind := some .acquire, ownerBefore := some .console, profile := factoryAcquire, step := 100
      measuring := .sampling (List.replicate 15 n) } }

/-- A search at its centre. -/
def centred (n : Nat) : State := measuring n { state := .measureCentre }

/-- The four probes of a first round. -/
def fourProbes : List Probe := [{ pan := 100 }, { pan := -100 }, { tilt := 100 }, { tilt := -100 }]

/-- A search at the first probe of its first round, the pan at that probe. -/
def probing (n m : Nat) : State :=
  (measuring n { state := .probing, centreLevel := 2000, measured := m, probes := fourProbes }).setAxis .pan
    { parked with position := 100, target := 100 }

/-- A round whose second probe has the greatest level. -/
def judged (v : Nat) : Search :=
  { profile := factoryAcquire, step := 100, centreLevel := 2000
    probes := [{ pan := 100, outcome := .level 2000 }, { pan := -100, outcome := .level v }, {}, {}] }

/-- A search whose pan is about to stand again. -/
def arriving (q : Search) : State :=
  { up with
    pos := { up.pos with
      owner := .search, pan := { parked with motion := .settling, settleTimer := some 1, origin := .search, ending := .arrived } }
    search := { q with kind := some .acquire, ownerBefore := some .console, profile := factoryAcquire, measuring := .moving } }

/-- A search that finishes, from a site, with its centre some way from the raw solution. -/
def finishing (pan : Int) : State :=
  arriving { state := .finishing, final := some .converged, origin := some (.site 1), raw := some (0, 0), centrePan := pan }

/-- A search that finishes, from where the dish stood. -/
def finishingHere : State := arriving { state := .finishing, final := some .budgetSpent, origin := some .here }

/-- The last axis of a sequence's stage, about to stand. -/
def lastAxis (s : State) (q : Sequence) : State :=
  { s with
    pos := { s.pos with
      owner := .sequence, pan := { parked with motion := .settling, settleTimer := some 1, origin := .sequence, ending := .arrived } }
    mast := { s.mast with owner := .sequence }
    seq := { q with awaits := { pan := true, tilt := false, pol := false } } }

/-- The last axis of a stow, with both stow switches closed. -/
def stowWindow : State :=
  lastAxis (lined { up.lines with panStow := { raw := true, level := true }, tiltStow := { raw := true, level := true } })
    { state := .stowPositioner }

/-- A deploy whose aim is about to end. -/
def aiming (d : DeployRec) : State := lastAxis up { state := .deployAim, deploy := some d, issued := true }

/-- A deploy whose mast is about to have settled. -/
def raised : State :=
  { settling 10000 .afterMove with
    pos := { up.pos with owner := .sequence }
    mast := { (settling 10000 .afterMove).mast with owner := .sequence, origin := .sequence }
    seq := { state := .deployRaise, deploy := some deployOne, issued := true } }

/-- A deploy that waits for the permit, which TILT_STOW alone still bars. -/
def tiltLifts : State :=
  { deployWaiting with lines := { up.lines with tiltStow := { raw := false, level := true, timer := some 0 } } }

/-- A stow whose mast comes to its nest. -/
def nestingSequence : State :=
  { nesting with
    pos := { nesting.pos with owner := .sequence }
    mast := { nesting.mast with owner := .sequence, origin := .sequence }
    seq := { state := .stowMast } }

/-- The permit given to a plant under the hold of an ESTOP. -/
def heldOnAir : State :=
  { stopped with
    pos := { stopped.pos with pan := { parked with motion := .held }, owner := .trip, enacted := .hold }
    gate := { request := true, state := .wait } }

/-- WIND in release, the positioner in the trip's hands. -/
def windyHeld : State := { windy with pos := { windy.pos with pan := { parked with motion := .held }, owner := .trip, enacted := .hold } }

/-- WIND in release, a trip's stow on its way. -/
def windyStowing : State :=
  { windy with pos := { windy.pos with owner := .trip, enacted := .stow, stowAwaits := { pan := true, tilt := false, pol := false } } }

/-- WIND in release, the mast held. -/
def windyMast : State := { windy with mast := { windy.mast with state := .held, heldIn := .raising, owner := .trip } }

/-- The last axis of a trip's stow, about to stand. -/
def tripStowing : State :=
  { up with pos := { up.pos with
      owner := .trip, stowAwaits := { pan := true, tilt := false, pol := false }
      pan := { parked with motion := .settling, settleTimer := some 1, origin := .trip } } }

/-- A trip's lowering whose NEST line is about to close. -/
def tripNesting : State := { nesting with mast := { nesting.mast with owner := .trip, origin := .trip } }

/-- The reply that waits for a place, with a frame behind it. -/
def waitingNext : State := { waitingOne with link := { waitingOne.link with queue := [⟨0x01, 5, []⟩] } }

/-- A fix whose heading is absent. -/
def headless : State := { up with fix := up.fix.map (fun f => { f with heading := 0, headingPresent := false }) }

/-- A fix just beyond 80° of latitude. -/
def polar : State := { up with fix := up.fix.map (fun f => { f with lat := 800000001 }) }

/-- A fix at the site itself. -/
def atSite : State := { up with fix := up.fix.map (fun f => { f with lat := siteOne.lat, lon := siteOne.lon }) }

/-- A van that is asked for a site of its table where it has no records. -/
def tableless : State := { up with sites := [] }

/-- The violation record full. -/
def full (s : State) : State := { s with violation := some { kind := .txSector, sector := 1, pan := 0, fixNumber := 7 } }

/-- The walled van with its pan's slot full, at a moment. -/
def walledSlot (m : Moment) : State := (walled (momented m)).setAxis .pan { parked with slot := some 20000 }

/-- A tilt without a reference, its slot full at ON_SYNC. -/
def tiltOnSync : State :=
  (up.setAxisSettings .tilt { up.axisSettings .tilt with moment := .onSync }).setAxis .tilt { slot := some 5 }

/-- A pan and tilt without a reference, the mast nested, before a gust whose trip stows. -/
def stowBySwitch : State := windGives ((nested.setAxis .pan {}).setAxis .tilt {}) stowsAlone

/-- A mast that raises, before a gust whose trip lowers it. -/
def raiseLowered : State := windGives raising lowersAlone

/-- WIND in release, all axes held, while AUX stands with a stow. -/
def holdGivesWay : State :=
  let held : AxisRec := { parked with motion := .held }
  { nested with
    trips := { windy.trips with
      aux := { config := { enabled := true, mode := .latched, delay := 5, action := stowsAlone }, state := .active, cause := true } }
    pos := { pan := held, tilt := held, pol := held, owner := .trip, enacted := .hold } }

/-- A mast on its way down to 9 m. -/
def loweringTo (target : Nat) : State :=
  masted { lowering.mast with counter := 6000, target := target, stopCount := (target + 60) / 2 }

/-- An axis in a leg of its homing. -/
def legged (ph : HomePhase) : AxisRec :=
  { motion := .homing, homing := some { begunReferenced := false, phase := ph }, driveUp := true }

/-- A pan that homes, its stow switch about to change. -/
def panLeg (ph : HomePhase) (raw : Bool) : State :=
  { panned (legged ph) with lines := { up.lines with panStow := { raw := raw, level := !raw, timer := some 0 } } }

/-- A tilt that homes, its stow switch about to change. -/
def tiltLeg (ph : HomePhase) (raw : Bool) : State :=
  { tilted (legged ph) with lines := { up.lines with tiltStow := { raw := raw, level := !raw, timer := some 0 } } }

/-- A pol that homes, its index line about to change. -/
def polLeg (ph : HomePhase) (raw : Bool) : State :=
  { up.setAxis .pol (legged ph) with
    lines := { up.lines with polIndex := { raw := raw, level := !raw, timer := some 0, captured := some (3, true) } } }

/-- A pan that settles with its slot full at AT_REST. -/
def settlingSlot (s : State) : State :=
  (s.setAxisSettings .pan { s.axisSettings .pan with moment := .atRest }).setAxis .pan
    { parked with motion := .settling, settleTimer := some 1, slot := some 20000 }

/-- AUX that stands with an action record. -/
def auxGives (s : State) (x : ActionRec) : State :=
  { s with trips := { s.trips with
      aux := { config := { enabled := true, mode := .latched, delay := 5, action := x }, state := .active, cause := true } } }

/-- An action record that stops a mast and nothing else. -/
def stopsMast : ActionRec := { raising := .stop, lowering := .stop, rest := .noAction, positioner := .noAction, transmit := .noAction }

/-- A mast that waits, at a count, with its tilt switch closed and its pan switch about to change. -/
def windowed (raw : Bool) (m : Mast) : State :=
  { masted m with lines := { up.lines with
      tiltStow := { raw := true, level := true }, panStow := { raw := raw, level := !raw, timer := some 0 } } }

/-- AUX disabled, its cause present, the mast nested. -/
def auxCaused : State := { nested with trips := { nested.trips with aux := { nested.trips.aux with cause := true } } }

/-- A search at the last probe of its round, with the probes' levels before it and the pan and tilt at it. -/
def lastProbe (v step : Nat) : State :=
  let t := measuring 2000
    { state := .probing, centreLevel := 2000, measured := 3, probeAt := 3
      probes := [{ pan := 100, outcome := .level v }, { pan := -100, outcome := .level 1999 }, { tilt := 100, outcome := .level 1999 },
        { tilt := -100 }] }
  { t.setAxis .tilt { parked with position := -100, target := -100 } with search := { t.search with step := step } }

/-- The record that the last probe leaves. -/
def lastJudged (v step : Nat) : Judgement :=
  Search.judge { (lastProbe v step).search with
    measured := 4, probes := (lastProbe v step).search.probes.set 3 { tilt := -100, outcome := .level 2000 } }

/-- The permit given, with the pan one count before a sector of the survey layer. -/
def onAir (x : SectorRec) : State :=
  { permitted.setAxis .pan { parked with position := 499 } with
    work := { up.work with map := { up.work.map with survey := writeRun 37 1 x up.work.map.survey } } }

/-- A van that is DEPLOYED, the mast at rest. -/
def deployed : State :=
  { owned with mast := { up.mast with owner := .sequence }, seq := { state := .deployed, deploy := some deployOne } }

/-- An action record that holds the positioner and stops the mast. -/
def holdsAll : ActionRec := { raising := .stop, lowering := .stop, rest := .noAction, positioner := .hold, transmit := .inhibit }

/-- A deploy's search that probes. -/
def deployProbing : State :=
  { deploySearching with
    pos := { up.pos with owner := .search }
    search := { state := .probing, kind := some .acquire, ownerBefore := some .sequence }
    seq := { deploySearching.seq with issued := true } }

/-- A pan at 0 that jogs. -/
def jogsTo (positive fast : Bool) (e : Option Int) : State :=
  panned { jogging.pos.pan with driveUp := positive, jog := some { positive := positive, fast := fast, endPoint := e } }

/-- A mast at a count of 5000 on its way down. -/
def lowersTo (target stop : Nat) : State := masted { lowering.mast with target := target, stopCount := stop }

/-- A mast at a count of 5000 that is nudged. -/
def nudges (up_ : Bool) (target : Nat) : State :=
  masted { up.mast with state := .nudging, nudgeUp := up_, target := target, leadInUse := 60, compressor := up_, vent := !up_ }

/-- A mast at a count of 5000 that tops up. -/
def toppingTo (stop : Nat) : State := masted { up.mast with state := .topping, target := 10200, stopCount := stop, compressor := true }

/-- The last axis of a sequence's stage, about to stand after a stop. -/
def lastStopped (st : SeqState) : State :=
  let s := lastAxis up { state := st, deploy := some deployOne }
  s.setAxis .pan { s.pos.pan with ending := .stopped }

/-- A deploy whose mast is about to have settled, both nudges made. -/
def raisedTo (target : Nat) (k : SettleKind) : State :=
  { raised with mast := { raised.mast with target := target, settleKind := k, nudges := 2 } }

/-- A deploy's search at its last conversion of the centre, after 15 of one count. -/
def deployMeasuring (n : Nat) : State :=
  { deployProbing with
    search := { deployProbing.search with
      state := .measureCentre, measuring := .sampling (List.replicate 15 n), profile := factoryAcquire } }

/-- The same van with a beacon floor of 1000 in use. -/
def lessFloor (s : State) : State := { s with sense := { s.sense with levelFloor := 1000 } }

/-- A deploy's search whose pan is about to stand at the centre. -/
def deployFinishing (f : FinalStatus) : State :=
  { deployProbing with
    pos := { deployProbing.pos with
      pan := { parked with motion := .settling, settleTimer := some 1, origin := .search, ending := .arrived } }
    search := { deployProbing.search with state := .finishing, final := some f, measuring := .moving } }

/-! ## Well-formedness and frames -/

/-- A name that leaves its frame's payload above 120 bytes is refused (R193). -/
theorem test_long_name_is_ill_formed :
    (Instr.siteStore 1 0 0 0 0 0 0 1 (List.replicate 101 65)).wellFormed = false
      ∧ (Instr.siteStore 1 0 0 0 0 0 0 1 (List.replicate 100 65)).wellFormed = true := by decide +kernel

/-- A frame of an unknown kind has a kind that is no request's, and at most 120 bytes (R193, R196). -/
theorem test_unknown_kind_frames :
    (Instr.unknownKindFrame 0x02 1 []).wellFormed = false
      ∧ (Instr.unknownKindFrame 0x04 1 (List.replicate 121 0)).wellFormed = false
      ∧ (Instr.unknownKindFrame 0x04 1 (List.replicate 120 0)).wellFormed = true := by decide +kernel

/-- Frames written out from the layouts of spec/10 spell their requests: MAST_TO 12,000 mm is 0x2EE0, AXIS_TARGET PAN −9100 is 0xDC74,
JOG TILT NEGATIVE FAST, TRIP_CLEAR of ALL is 0x03FF, DEPLOY with the options SEARCH and TRACK is the set 5. -/
theorem test_frames_decode :
    decodeFrame ⟨0x30, 9, [0x2E, 0xE0]⟩ = some (.mastTo 9 12000)
      ∧ decodeFrame ⟨0x20, 9, [0x00, 0xDC, 0x74]⟩ = some (.axisTarget 9 0 (BitVec.ofInt 16 (-9100)))
      ∧ decodeFrame ⟨0x24, 9, [0x01, 0x01, 0x01]⟩ = some (.jog 9 1 1 1)
      ∧ decodeFrame ⟨0x42, 9, [0x03, 0xFF]⟩ = some (.tripClear 9 1023)
      ∧ decodeFrame ⟨0x50, 9, [0x04, 0x2E, 0xE0, 0x00, 0x05, 0x00, 0x64]⟩ = some (.deploy 9 4 12000 5 100) := by decide +kernel

/-- A length that is not the kind's, and a kind that is no request's, spell no request (R196). -/
theorem test_frames_refused :
    decodeFrame ⟨0x30, 9, [0x2E]⟩ = none ∧ decodeFrame ⟨0x04, 9, []⟩ = none ∧ decodeFrame ⟨0x60, 9, []⟩ = none := by decide

/-- The table gives its rows no bits, so no word spells a command. -/
theorem test_no_word_spells_a_command : decodeTableWord 8 0 = none ∧ decodeTableWord 16 0xC3 = none := by decide

/-- The CRC of spec/10 from 0xFFFF with polynomial 0x1021, on its well-known check string of the nine digits: 0x29B1 (UNVERIFIED by the
manual, which gives no example). -/
theorem test_crc : crc16 [0x31, 0x32, 0x33, 0x34, 0x35, 0x36, 0x37, 0x38, 0x39] = 0x29B1 := by decide +kernel

/-! ## The manual's worked cases -/

/-- The inputs of the worked case of chapter 1, section 1.5. -/
def workedInputs : SolveInputs :=
  { State.solveInputs
      { up with
        fix := some { lat := 470000000, lon := 80000000, alt := 4550, heading := 30000, headingPresent := true, number := 7 }
        sites := [{ siteOne with number := 4, lat := 472000000, lon := 81500000, alt := 9120 }]
        sense := { pitch := { filter := [3968] }, roll := { filter := [1248] } } }
      4 12000 with
    pan := 0 }

/-- The figures of chapter 1, section 1.5: n, E, d, b, ε, α, ε_v, t and the three targets. The filters hold counts that give the
readings +120 and −50. -/
theorem test_worked_solution :
    let q := solve workedInputs
    q.status = .valid ∧ (q.north, q.east, q.distance) = (22239, 11354, 24970) ∧ (q.bearing, q.elevation) = (2705, 93)
      ∧ (q.azimuth, q.vanElevation, q.polarisation) = (8705, 37, 8883) ∧ (q.panTarget, q.tiltTarget, q.polTarget) = (-9295, 37, 8883)
      ∧ q.candidates = [{ position := -9295, pathLength := 9295, admissible := true, firstBlocked := none, preferred := true }] := by
  decide +kernel

/-- The same section with sectors 20 to 22 BLOCKED: no candidate is preferred, and sector 22 is the first blocked one. -/
theorem test_worked_solution_blocked :
    let q := solve { workedInputs with
      map := { workedInputs.map with survey := writeRun 20 3 { attr := .blocked } workedInputs.map.survey } }
    q.hasPreferred = false ∧ q.panTarget = -9295 ∧ q.blockedSector = 22 := by
  decide +kernel

/-- Chapter 3, targets held for SYNC: from −9295 the pan at stow azimuth 18000 enters a BLOCKED sector 18 on its way to −9000, and none
on its way to −9100. -/
theorem test_sync_paths :
    let m := { factoryMap with survey := writeRun 18 1 { attr := .blocked } factoryMap.survey }
    m.firstBlocked (-9295) (-9000) = some 18 ∧ m.firstBlocked (-9295) (-9100) = none := by decide +kernel

/-- Section 3.6: the pan homes at 150 cdeg/s to its stow switch and at 60 cdeg/s after it. -/
theorem test_homing_speeds :
    driveSpeed .pan { motion := .homing, homing := some { begunReferenced := false, phase := .approach } } = 160 * 150
      ∧ driveSpeed .pan { motion := .homing, homing := some { begunReferenced := false, phase := .seek } } = 160 * 60 := by decide

/-- Section 3.1: the tilt at THREE_EIGHTHS moves at 112.5 cdeg/s, and the pol jogs SLOW at 50 cdeg/s. -/
theorem test_class_speeds :
    2 * driveSpeed .tilt { motion := .slewing, classInUse := .threeEighths } = 160 * 225
      ∧ driveSpeed .pol { motion := .jogging, jog := some { positive := true, fast := false, endPoint := none } } = 160 * 50 := by decide

/-- Chapter 4, section 4.9: MAST_TO 12,000 from the nest raises toward the stop count 5970, and a count that reaches it settles. -/
theorem test_raise_to_the_stop_count :
    (match exec (.mastTo 1 12000) nested with | .next t => (t.mast.state, t.mast.stopCount, t.mast.compressor) | _ => (.held, 0, false))
        = (.raising, 5970, true)
      ∧ (match exec (.mastEncoderCount true) (masted { raising.mast with counter := 5969, target := 12000, stopCount := 5970 }) with
          | .next t => (t.mast.state, t.mast.counter) | _ => (.held, 0)) = (.settling, 5970) := by decide +kernel

/-- The same section: 11,950 mm after the first settle is nudged, aimed at count 6000; 11,898 mm tops up, and 11,900 mm does not. -/
theorem test_nudge_and_sag :
    (match exec .mastSettleDone (masted { up.mast with state := .settling, counter := 5975, target := 12000 }) with
        | .next t => (t.mast.state, t.mast.nudges, t.mast.compressor) | _ => (.held, 0, false)) = (.nudging, 1, true)
      ∧ (match exec (.mastEncoderCount false) (masted { up.mast with counter := 5951, target := 12000 }) with
          | .next t => (t.mast.state, t.mast.stopCount) | _ => (.held, 0)) = (.rest, 0)
      ∧ (match exec (.mastEncoderCount false) (masted { up.mast with counter := 5950, target := 12000 }) with
          | .next t => (t.mast.state, t.mast.stopCount) | _ => (.held, 0)) = (.topping, 5970) := by decide +kernel

/-- The same section: the way down with the stow window open pauses at count 930. -/
theorem test_lowering_pauses_at_the_clearance :
    (match exec (.mastEncoderCount false) (masted { lowering.mast with counter := 932 }) with
        | .next t => t.mast.state | _ => .held) = .lowering
      ∧ (match exec (.mastEncoderCount false) (masted { lowering.mast with counter := 931 }) with
          | .next t => (t.mast.state, t.mast.vent) | _ => (.held, true)) = (.clearWait, false) := by decide +kernel

/-- Chapter 5, gusts at the defaults: the set value is 26, and gate 2 with its 27 pulses gives 189. -/
theorem test_gust_figures :
    gustSetValue factorySense = 26
      ∧ (match exec .gateEnd { up with sense := { pulses := 27 } } with
          | .next t => (t.sense.windSpeed, t.sense.pulses, t.sense.gust) | _ => (0, 1, 0)) = (189, 0, 26) := by decide +kernel

/-- The 26th pulse of a gate brings the gust counter to 0 and makes the WIND source ACTIVE (R113, R124). -/
theorem test_gust_trips :
    (match exec (.anemometerPulse 2000) { up with sense := { gust := 1 } } with
      | .next t => (t.trips.wind.state, t.pos.owner, t.mast.target) | _ => (.clear, .console, 1)) = (.active, .trip, 0) := by decide +kernel

/-- A TX_REQUEST with all conditions met gives the permit, and one under NO_TX waits (R167, R169, R171). -/
theorem test_permit :
    (match exec (.txRequest 1 0) up with | .next t => t.txPermit | _ => false) = true
      ∧ (match exec (.txRequest 1 0)
            { up with work := { up.work with map := { factoryMap with body := writeRun 36 1 { attr := .noTx } factoryMap.body } } } with
          | .next t => t.gate.state | _ => .on) = .wait := by decide +kernel

/-- A JOG that keeps a pan going in its direction keeps its stall mark, and one that turns it sets a new one (R64). -/
theorem test_jog_keeps_the_stall_mark :
    (match exec (.jog 1 0 0 0) jogging with | .next t => (t.pos.pan.stallTimer, t.pos.pan.jogTimer) | _ => (none, none)) = (some 700, some 500)
      ∧ (match exec (.jog 1 0 1 0) jogging with | .next t => t.pos.pan.stallTimer | _ => none) = some 2000 := by decide +kernel

/-- A MAST_LOWER taken in CLEAR_WAIT keeps waiting for the window, also above the pause point (R98). -/
theorem test_lower_in_clear_wait :
    (match exec (.mastLower 1) (masted { waiting.mast with counter := 931, target := 1000 }) with
      | .next t => (t.mast.state, t.mast.target, t.mast.vent) | _ => (.held, 1, true)) = (.clearWait, 0, false) := by decide +kernel

/-- A raise limit that has fallen during a settle lowers no mast (R87). -/
theorem test_fallen_limit_lowers_no_mast :
    (match exec .mastSettleDone (settling 9000 .afterLowered) with
      | .next t => (t.mast.state, t.mast.outcome, t.mast.vent) | _ => (.held, none, true)) = (.rest, some .heightOff, false) := by
  decide +kernel

/-- The REPORT notice carries the items of R203 and those of R89, R103 and R170: the mast state, the supply reading and the reasons. -/
theorem test_report_shows_the_mast_state :
    noticePayload up .report ≠ noticePayload (masted { up.mast with state := .topping }) .report := by decide +kernel

/-- A raising van whose pan stands across a wall from its stow position, a tilt and a supply close to their limits: TILT stops the mast and
stows, SUPPLY lowers it and holds. -/
def twoCauses : State :=
  let s := walled (panned { parked with position := 1000 })
  { s with
    mast := raising.mast
    work := { s.work with sense := { s.work.sense with pitchGain := 500 } }
    sense := { pitch := { filter := [3048], latest := 3048 }, supply := { filter := [1200], latest := 1200 } }
    trips := { up.trips with
      tilt := { up.trips.tilt with config := { up.trips.tilt.config with enabled := true, action := stowsAlone } }
      supply := { up.trips.supply with
        config := { up.trips.supply.config with
          enabled := true
          action := { raising := .lower, lowering := .goOn, rest := .noAction, positioner := .hold, transmit := .inhibit } } } } }

/-- A LIMIT_SET that sets both causes hands them on one after the other (R118, R130): the stow of TILT is refused by the map and leaves its
PATH_BLOCKED violation, then SUPPLY holds the axes; the mast stays held, the STOP being the more severe entry (R129). -/
theorem test_limit_set_is_two_events :
    (match exec (.limitSet 1 100 300) twoCauses with
      | .next t => (t.violation.map (fun v => v.kind), t.pos.pan.motion, t.pos.enacted, t.mast.state) | _ => (none, .rest, .noAction, .rest))
      = (some .pathBlocked, .held, .hold, .held) := by decide +kernel

/-- From reset a second POWER_ON changes nothing (R213). -/
theorem test_power_on_from_reset : (match exec .powerOn State.reset with | .next t => t | _ => up) = State.reset := by
  decide +kernel

/-! ## The hypotheses of the statements -/

/-- A state with a TX_REQUEST in front. -/
def requesting : State := { up with pending := [.txRequest 5 0] }

/-- A search that measures its last probe, with the conversion that completes it in front. -/
def converting : State := { probing 2000 39 with pending := [.conversion .level 2000] }

/-- The factory profiles stand in their ranges. -/
theorem factory_profiles_sound : ProfileSound factoryAcquire ∧ ProfileSound factoryTrack :=
  ⟨⟨by decide, by decide, by decide, by decide, by decide, by decide, by decide, by decide⟩,
   ⟨by decide, by decide, by decide, by decide, by decide, by decide, by decide, by decide⟩⟩

/-- The factory settings stand in their ranges. -/
theorem factory_settings_sound : WorkSound factorySettings.work :=
  { map := ⟨by decide, by decide, by decide, by decide, by decide, by decide⟩
    mast := ⟨by decide, by decide, by decide, by decide, by decide, by decide, by decide⟩
    acquire := factory_profiles_sound.1
    track := factory_profiles_sound.2 }

/-- The invariant holds of the first. -/
theorem requesting_inv : requesting.Inv :=
  { link := by unfold State.LinkBounded; decide
    outputs := by unfold State.OutputsMatch; decide
    clearance := by intro h; exact absurd h (by decide)
    gate := by unfold State.GateExact; decide
    settings := ⟨factory_settings_sound, by decide, factory_settings_sound, by decide, fun _ h => nomatch h⟩
    counts := by unfold State.CountsBounded; decide }

/-- The invariant holds of the second. -/
theorem converting_inv : converting.Inv :=
  { link := by unfold State.LinkBounded; decide
    outputs := by unfold State.OutputsMatch; decide
    clearance := by intro h; exact absurd h (by decide)
    gate := by unfold State.GateExact; decide
    settings := ⟨factory_settings_sound, by decide, factory_settings_sound, by decide, fun _ h => nomatch h⟩
    counts := by unfold State.CountsBounded; decide }

/-- The bounds of the search hold of the second. -/
theorem converting_bounded : converting.SearchBounded :=
  { budget := by decide
    radius := by
      intro p hp v hv
      have hp : p ∈ fourProbes := hp
      simp only [fourProbes, List.mem_cons, List.not_mem_nil, or_false] at hp
      rcases hp with rfl | rfl | rfl | rfl <;> cases hv
    profile := fun _ => factory_profiles_sound.1
    centre := by decide
    probing := fun _ => ⟨by decide, by decide, by decide, fun _ => ⟨by decide, by unfold Search.within; decide⟩⟩ }

/-- The trip sources of a van with a latched ESTOP are sound. -/
theorem latched_sound : latched.TripsSound := by
  intro n
  cases n <;> exact ⟨by decide, by decide, (fun _ h => nomatch h), by decide⟩

/-- The hypotheses of EveryStepKeepsTheSearchBounded are met by a probe that spends the budget. -/
theorem witness_every_step_keeps_the_search_bounded :
    ∃ t, converting.Inv ∧ converting.SearchBounded ∧ step converting = .next t ∧ t.search.measured = t.search.profile.budget :=
  ⟨_, converting_inv, converting_bounded, rfl, by decide +kernel⟩

/-- The hypotheses of LatchedSourcesStayUntilCleared are met by a step, and by a release expiry of a latched source. -/
theorem witness_latched_sources_stay_until_cleared :
    (∃ t, latched.TripsSound ∧ step latched = .next t)
    ∧ ∃ t, latched.TripsSound ∧ latched.link.queue = [] ∧ (latched.trips.source .estop).config.mode = .latched
      ∧ (latched.trips.source .estop).state ≠ .clear ∧ exec (.releaseTimerExpiry .estop) latched = .next t :=
  ⟨⟨_, latched_sound, rfl⟩, _, latched_sound, by decide, by decide, by decide, rfl⟩

/-- The hypotheses of EveryStepKeepsTheInvariant and of PermitNeedsEveryCondition are met. -/
theorem witness_permit_and_invariant : ∃ t, requesting.Inv ∧ step requesting = .next t ∧ t.txPermit = true :=
  ⟨_, requesting_inv, rfl, by decide +kernel⟩

/-- The hypotheses of LockFreezesItsSettings are met. -/
theorem witness_lock_freezes_its_settings :
    ∃ t, locked.lock = true ∧ exec (.slewSet 5 0 1) locked = .next t := ⟨_, by decide, rfl⟩

/-- The axes of a van whose three axes are referenced, none of them in UNREF, are sound. -/
theorem axes_sound_of_referenced (s : State)
    (h : ∀ a, (s.axis a).referenced = true ∧ (s.axis a).motion ≠ .unref) : s.AxesSound :=
  fun a => ⟨fun hu => absurd hu (h a).2, fun _ => (h a).1⟩

/-- The same van with a reply in transmission and an IDENT frame in the receive queue. -/
def queued (s : State) : State := { s with link := { s.link with sending := some { frame := ⟨0x81, 1, [0]⟩ }, queue := [⟨0x01, 5, []⟩] } }

/-- A pan 1 cdeg short of its index position that homes toward it, up. -/
def homingUp : State := walled (panned { parked with
  position := (up.axisSettings .pan).indexPosition - 1, motion := .homing, driveUp := true, homing := some { begunReferenced := true, phase := .seek } })

/-- The hypotheses of NoCommandAimsThePanThroughABlockedSector are met by a step of a sound van; by a pan on its way and an AXIS_TARGET; by a
pan that homes, a frame waiting behind a transmission, and a HUSH; by an index edge of it; and by counts along the path of a move up to its
last count, of a jog and of a homing. -/
theorem witness_no_command_aims_the_pan_through_a_blocked_sector :
    (∃ t, requesting.AxesSound ∧ step requesting = .next t)
    ∧ (∃ t, exec (.axisTarget 5 0 499) (walled (panned { parked with motion := .slewing, target := 400 })) = .next t
      ∧ (walled (panned { parked with motion := .slewing, target := 400 })).PanPathClear)
    ∧ (∃ t, exec (.hush 5) (queued homing) = .next t ∧ (queued homing).AxesSound ∧ (queued homing).HomingPathClear
      ∧ (∀ f ∈ (queued homing).link.queue, f.kind ≠ 0x29)
      ∧ (t.axisSettings .pan).indexPosition = ((queued homing).axisSettings .pan).indexPosition ∧ t.pos.pan.motion = .homing)
    ∧ (∃ t, exec (.debounceExpiry .panIndex) homing = .next t ∧ homing.AxesSound ∧ homing.HomingPathClear)
    ∧ (∃ t, exec (.axisEncoderMove .pan 1) (walled (panned { parked with motion := .slewing, position := 399, target := 400 })) = .next t
      ∧ (walled (panned { parked with motion := .slewing, position := 399, target := 400 })).PanPathClear)
    ∧ (∃ t, exec (.axisEncoderMove .pan 0xFFFF) (panned { jogging.pos.pan with jog := some ⟨false, false, some (-1)⟩ }) = .next t
      ∧ (panned { jogging.pos.pan with jog := some ⟨false, false, some (-1)⟩ }).PanPathClear)
    ∧ ∃ t, exec (.axisEncoderMove .pan 1) homingUp = .next t ∧ homingUp.AxesSound ∧ homingUp.HomingPathClear :=
  ⟨⟨_, axes_sound_of_referenced _ (by intro a; cases a <;> decide), rfl⟩,
   ⟨_, rfl, fun _ => ⟨fun _ => by decide +kernel, fun h => absurd h (by decide)⟩⟩,
   ⟨_, rfl, axes_sound_of_referenced _ (by intro a; cases a <;> decide), fun _ _ _ _ _ => by decide +kernel, by decide, by decide +kernel,
    by decide +kernel⟩,
   ⟨_, rfl, axes_sound_of_referenced _ (by intro a; cases a <;> decide), fun _ _ _ _ _ => by decide +kernel⟩,
   ⟨_, rfl, fun _ => ⟨fun _ => by decide +kernel, fun h => absurd h (by decide)⟩⟩,
   ⟨_, rfl, fun _ => ⟨fun h => by rcases h with h | h <;> exact absurd h (by decide),
     fun _ j e hj he => by cases hj; cases he; decide +kernel⟩⟩,
   _, rfl, axes_sound_of_referenced _ (by intro a; cases a <;> decide), fun _ _ _ _ _ => by decide +kernel⟩

/-- The hypotheses of FramesSpellTheirRequests and of BytesOfAFrameActAsItsRequest are met, at the longest name too. -/
theorem witness_frames :
    ((Instr.siteStore 5 15 0 0 0 0 0 1 (List.replicate 100 65)).wellFormed = true
      ∧ (encodeFrame (.siteStore 5 15 0 0 0 0 0 1 (List.replicate 100 65))).isSome = true)
    ∧ (Instr.unknownKindFrame 0x5E 5 []).wellFormed = true ∧ (encodeFrame (.unknownKindFrame 0x5E 5 [])).isSome = true
    ∧ (sendingOne []).link.receiver = {} ∧ (sendingOne []).link.sending.isSome = true :=
  ⟨⟨by decide, by decide⟩, by decide, by decide, by decide, by decide⟩

/-- A receiver in a state. -/
def receiving (r : Receiver) : State := { up with link := { receiver := r } }

/-- The hypotheses of ReceiverFollowsItsTable are met. -/
theorem witness_receiver_follows_its_table :
    up.link.receiver.state = .hunt ∧ (receiving { state := .length }).link.receiver.state = .length
      ∧ (receiving { state := .kind }).link.receiver.state = .kind ∧ (receiving { state := .tag }).link.receiver.state = .tag
      ∧ (receiving { state := .payload, length := 120 }).link.receiver.state = .payload
      ∧ (receiving { state := .check }).link.receiver.crc = []
      ∧ (receiving { state := .check, crc := [0] }).link.receiver.crc = [0]
      ∧ frameCrc { kind := 0, tag := 0, payload := [] } ≠ halfOf 0 0 :=
  ⟨by decide, by decide, by decide, by decide, by decide, by decide, by decide, by decide +kernel⟩

/-- The hypotheses of FramesAreQueuedDiscardedOrAnsweredFormat are met, with the receive queue almost full and full. -/
theorem witness_frames_are_queued_discarded_or_answered_format :
    (encodeFrame (.ident 5) = some ⟨0x01, 5, []⟩ ∧ waitingOne.link.waiting.isSome = true ∧ waitingOne.link.queue.length < 4)
    ∧ restarting.link.restarting = true
    ∧ 4 ≤ (List.replicate 4 (⟨0x01, 5, []⟩ : Frame)).length
    ∧ up.takesNow ∧ requestKinds.contains 0x5F = false ∧ requestKinds.contains 0x60 = false
    ∧ (0x30 : Byte).toNat ∈ [0x1A, 0x1B, 0x21, 0x28, 0x30, 0x42, 0x58, 0x5B] ∧ [(0 : Byte)].length ≠ 2
    ∧ (List.replicate 19 (0 : Byte)).length < 20 ∧ (List.replicate 20 (1 : Byte)).length ≠ 20 + 1 :=
  ⟨by decide, by decide, by decide, by decide, by decide, by decide, by decide, by decide, by decide, by decide⟩

/-- The hypotheses of StepRunsTheFrontCommand are met. -/
theorem witness_step_runs_the_front_command :
    (State.reset.pending = []) :=
  by decide

/-- The hypotheses of TransmitterTakesRepliesThenNotices are met. -/
theorem witness_transmitter_takes_replies_then_notices :
    (sendingTwo.link.sending = some twoParts ∧ twoParts.rest = [[1]])
    ∧ ((sendingOne [answer]).link.sending = some onePart ∧ onePart.rest = [] ∧ onePart.restarts = false
      ∧ (sendingOne [answer]).link.waiting = none ∧ (sendingOne [answer]).link.queue = []
      ∧ (sendingOne [answer]).link.replies = [answer] ∧ answer.parts = [[0]])
    ∧ ((sendingOne []).link.sending = some onePart ∧ (sendingOne []).link.replies = [] ∧ (sendingOne []).notices.eligible .started = true)
    ∧ (silent.link.replies = [] ∧ allNotices.all (fun k => !silent.notices.eligible k) = true)
    ∧ (waitingOne.link.sending = some onePart ∧ waitingOne.link.queue = [] ∧ waitingOne.link.waiting = some (answer, .nothing)
      ∧ waitingOne.link.replies = [answer, answer, answer, answer] ∧ [answer, answer, answer].length < 4) :=
  ⟨by decide, by decide, by decide, by decide, by decide⟩

/-- The hypotheses of ColdResetsLoadTheImage are met. -/
theorem witness_cold_resets_load_the_image :
    (up.store.imageGood = true ∧ up.store.snapshot = none)
    ∧ (saving.store.snapshot.isSome = true)
    ∧ (up.lines.estop.raw = false ∧ (!up.lines.brake.raw || up.lines.drive.raw) = false
      ∧ contactCause up.store.image.work.sense.pressurePolarity up.lines.pressure.raw = false
      ∧ contactCause up.store.image.work.sense.auxPolarity up.lines.aux.raw = false) :=
  ⟨by decide, by decide, by decide⟩

/-- The hypotheses of RestartTakesEffectAfterItsReply are met. -/
theorem witness_restart_takes_effect_after_its_reply :
    (up.takesNow)
    ∧ (restarting.link.sending = some lastPart ∧ lastPart.rest = [] ∧ lastPart.restarts = true)
    ∧ (restarting.lines.estop.raw = false ∧ (!restarting.lines.brake.raw || restarting.lines.drive.raw) = false
      ∧ contactCause restarting.work.sense.pressurePolarity restarting.lines.pressure.raw = false
      ∧ contactCause restarting.work.sense.auxPolarity restarting.lines.aux.raw = false) :=
  ⟨by decide, by decide, by decide⟩

/-- The hypotheses of SaveSnapshotsTheWorkingSettings are met. -/
theorem witness_save_snapshots_the_working_settings :
    (up.takesNow ∧ up.store.snapshot = none)
    ∧ (saving.takesNow ∧ saving.store.snapshot = some factorySettings) :=
  ⟨by decide, by decide⟩


/-- The hypotheses of ReadsChangeNothing are met. -/
theorem witness_reads_change_nothing :
    (up.takesNow ∧ (255 : Byte).toNat = 255 ∧ layerOf 0 = some .body)
    ∧ (up.takesNow ∧ up.site? 1 = some siteOne ∧ layerOf 2 = some .effective ∧ axisOf 1 = some .tilt)
    ∧ (up.takesNow ∧ up.site? 15 = none ∧ 2 < (3 : Byte).toNat ∧ 2 < (15 : Byte).toNat)
    ∧ (up.takesNow ∧ 36 < (37 : Byte).toNat) :=
  ⟨by decide, by decide, by decide, by decide⟩

/-- The hypotheses of SitesAreStoredAndErased are met. -/
theorem witness_sites_are_stored_and_erased :
    (up.takesNow ∧ (15 : Byte).toNat ≤ 15 ∧ (4094 : Half).toNat < (4095 : Half).toNat ∧ sitesOrdered up.sites)
    ∧ (15 < (16 : Byte).toNat)
    ∧ ((up.site? 1).isSome = true ∧ up.site? 15 = none) :=
  ⟨by decide, by decide, by decide⟩

/-- The hypotheses of FixReplacesTheFixRecord are met. -/
theorem witness_fix_replaces_the_fix_record :
    (up.takesNow ∧ (900000000 : Quad).toInt ≤ 900000000 ∧ (35999 : Half).toNat ≤ 35999)
    ∧ (up.takesNow)
    ∧ (up.takesNow ∧ 900000000 < (900000001 : Quad).toInt ∧ 35999 < (36000 : Half).toNat) :=
  ⟨by decide, by decide, by decide⟩

/-- The hypotheses of SolveWritesTheSolutionAlone are met. -/
theorem witness_solve_writes_the_solution_alone :
    (up.takesNow)
    ∧ (up.takesNow ∧ (15000 : Half).toNat ≤ 15000)
    ∧ (up.takesNow ∧ 15 < (16 : Byte).toNat ∧ 15000 < (15001 : Half).toNat) :=
  ⟨by decide, by decide, by decide⟩

/-- The hypotheses of SolutionsFollowTheStages are met, also with the longitudes of fix and site at the two ends of their range, where the
two stand side by side across the meridian of 180 degrees. -/
theorem witness_solutions_follow_the_stages :
    ((solve (up.solveInputs 1 up.extension)).status = .valid ∧ (up.solveInputs 1 up.extension).fix.map (fun f => f.lon) = some 0
      ∧ (up.solveInputs 1 up.extension).site.map (fun r => r.lon) = some 300000)
    ∧ ((solve { up.solveInputs 1 up.extension with
        fix := up.fix.map (fun f => { f with lat := siteOne.lat, lon := -1800000000 })
        site := some { siteOne with lon := 1799999999 } }).detail = some .tooNear) :=
  ⟨by decide +kernel, by decide +kernel⟩

/-- The hypotheses of AimMovesAllThreeAxesOrNone are met. -/
theorem witness_aim_moves_all_three_axes_or_none :
    (up.takesNow ∧ up.Calm ∧ up.pos.owner = .console ∧ up.pos.pan.referenced = true ∧ up.pos.tilt.referenced = true
      ∧ up.pos.pol.referenced = true ∧ up.mastReady = true ∧ (solve (up.solveInputs 1 up.extension)).status = .valid
      ∧ (solve (up.solveInputs 1 up.extension)).hasPreferred = true)
    ∧ (up.takesNow ∧ 15 < (16 : Byte).toNat)
    ∧ (stopped.takesNow ∧ stopped.positionerInForce = true)
    ∧ (owned.takesNow ∧ owned.positionerInForce = false ∧ owned.pos.owner ≠ .console)
    ∧ (unfixed.takesNow ∧ unfixed.Calm ∧ (solve (unfixed.solveInputs 1 unfixed.extension)).status = .noFix)
    ∧ (up.takesNow ∧ up.Calm ∧ (solve (up.solveInputs 15 up.extension)).status = .noSite)
    ∧ (farOff.takesNow ∧ farOff.Calm ∧ (solve (farOff.solveInputs 1 farOff.extension)).status = .geometry)
    ∧ ((panned {}).takesNow ∧ (panned {}).Calm ∧ (solve ((panned {}).solveInputs 1 (panned {}).extension)).status = .valid
      ∧ (panned {}).pos.pan.referenced = false)
    ∧ (low.takesNow ∧ low.Calm ∧ (solve (low.solveInputs 1 low.extension)).status = .valid ∧ low.pos.pan.referenced = true
      ∧ low.mastReady = false)
    ∧ ((walled up).takesNow ∧ (walled up).Calm ∧ (solve ((walled up).solveInputs 1 (walled up).extension)).status = .valid
      ∧ (walled up).mastReady = true ∧ (solve ((walled up).solveInputs 1 (walled up).extension)).hasPreferred = false
      ∧ (walled up).violation = none) :=
  ⟨by decide +kernel, by decide, by decide, by decide, by decide +kernel, by decide +kernel, by decide +kernel, by decide +kernel, by decide +kernel,
   by decide +kernel⟩

/-- The hypotheses of MapWriteWritesItsRunAndStopsABarredMove are met. -/
theorem witness_map_write_writes_its_run_and_stops_a_barred_move :
    (up.takesNow ∧ up.Calm ∧ up.pos.pan.motion = .rest ∧ up.pos.stowUnrun = false ∧ (20000 : Half).toNat ≤ 20000)
    ∧ (up.takesNow ∧ up.Calm ∧ up.lock = false ∧ (up.work.map.stowSector + 72 - 37) % 72 ≥ 71)
    ∧ (up.takesNow ∧ 71 < (72 : Byte).toNat)
    ∧ (locked.takesNow ∧ locked.lock = true)
    ∧ (up.takesNow ∧ (up.work.map.stowSector + 72 - 37) % 72 < 72)
    ∧ (slewingFar.takesNow
      ∧ slewingFar.Calm
      ∧ slewingFar.pos.pan.referenced = true
      ∧ slewingFar.pos.pan.motion = .slewing
      ∧ slewingFar.pos.stowUnrun = false
      ∧ slewingFar.pos.stowAwaits.pan = false
      ∧ slewingFar.violation = none
      ∧ (slewingFar.work.map.stowSector + 72 - 37) % 72 ≥ 71
      ∧ (walled slewingFar).work.map.firstBlocked slewingFar.pos.pan.position slewingFar.pos.pan.target = some 37) :=
  ⟨by decide, by decide, by decide, by decide, by decide, by decide +kernel⟩

/-- The hypotheses of CeilingSetBringsTheTargetDown are met. -/
theorem witness_ceiling_set_brings_the_target_down :
    (up.takesNow ∧ up.Calm ∧ up.mast.state = .rest ∧ up.mast.target ≤ up.extension + up.work.mast.sagAllowance)
    ∧ (nested.takesNow ∧ nested.Calm ∧ nested.mast.state = .nested)
    ∧ (up.takesNow ∧ (999 : Half).toNat ≤ 999)
    ∧ (raising.takesNow ∧ raising.Calm ∧ raising.mast.state = .raising ∧ limitUnder 13400 ≠ raising.raiseLimit
      ∧ limitUnder 13400 ≤ raising.extension)
    ∧ ((masted { raising.mast with target := 12000 }).takesNow ∧ (masted { raising.mast with target := 12000 }).Calm
      ∧ raising.extension < limitUnder 15400 ∧ 12000 ≤ limitUnder 15400)
    ∧ (raising.extension < limitUnder 15400 ∧ limitUnder 15400 < raising.mast.target
      ∧ raising.mast.counter < (limitUnder 15400 - raising.mast.leadInUse) / 2)
    ∧ (raising.extension < limitUnder 13410 ∧ limitUnder 13410 < raising.mast.target
      ∧ (limitUnder 13410 - raising.mast.leadInUse) / 2 ≤ raising.mast.counter)
    ∧ ((settling 10000 .afterMove).takesNow ∧ (settling 10000 .afterMove).Calm
      ∧ limitUnder 13000 ≠ (settling 10000 .afterMove).raiseLimit ∧ limitUnder 13000 < (settling 10000 .afterMove).mast.target) :=
  ⟨by decide, by decide, by decide, by decide, by decide, by decide, by decide, by decide⟩

/-- The hypotheses of StowAzimuthLockAndAcknowledgement are met. -/
theorem witness_stow_azimuth_lock_and_acknowledgement :
    (up.takesNow ∧ up.Calm ∧ up.pos.pan.motion = .rest ∧ up.pos.stowUnrun = false ∧ up.lock = false
      ∧ (up.work.map.bodyRec 71).attr ≠ .blocked ∧ (up.work.map.surveyRec 71).attr ≠ .blocked)
    ∧ (up.takesNow ∧ 35999 < (36000 : Half).toNat)
    ∧ (locked.takesNow ∧ locked.lock = true)
    ∧ ((walled up).takesNow ∧ (walled up).lock = false ∧ ((walled up).work.map.surveyRec (35999 / 500)).attr = .blocked) :=
  ⟨by decide, by decide, by decide, by decide +kernel⟩

/-- The hypotheses of AxisTargetActsByTheUpdateMoment are met. -/
theorem witness_axis_target_acts_by_the_update_moment :
    (up.takesNow ∧ up.positionerInForce = false ∧ up.pos.owner = .console ∧ axisOf 0 = some .pan ∧ 20000 < (20001 : Half).toInt)
    ∧ (up.takesNow ∧ up.Calm ∧ up.positionerInForce = false ∧ up.pos.owner = .console ∧ (up.axisSettings .pan).moment = .immediate
      ∧ up.pos.pan.referenced = true ∧ up.mastReady = true ∧ up.work.map.firstBlocked 0 20000 = none)
    ∧ ((momented .atRest).takesNow ∧ (momented .atRest).Calm ∧ ((momented .atRest).axisSettings .pan).moment = .atRest
      ∧ (momented .atRest).pos.pan.motion = .rest)
    ∧ ((momented .onSync).takesNow ∧ ((momented .onSync).axisSettings .pan).moment = .onSync)
    ∧ ((panned {}).takesNow ∧ (panned {}).positionerInForce = false ∧ (panned {}).pos.pan.referenced = false)
    ∧ (low.takesNow ∧ axisOf 2 = some .pol ∧ low.pos.pol.referenced = true ∧ low.mastReady = false)
    ∧ ((walled up).takesNow ∧ (walled up).positionerInForce = false ∧ (walled up).mastReady = true ∧ (walled up).violation = none
      ∧ (walled up).work.map.firstBlocked 0 20000 = some 37) :=
  ⟨by decide, by decide, by decide, by decide, by decide, by decide, by decide +kernel⟩

/-- The hypotheses of PositionerRequestsAreRefusedTrippedOrBusy are met. -/
theorem witness_positioner_requests_are_refused_tripped_or_busy :
    (stopped.takesNow ∧ stopped.positionerInForce = true ∧ (2 : Byte).toNat ≤ 2 ∧ (3 : Byte).toNat ≤ 3)
    ∧ (owned.takesNow ∧ owned.pos.owner ≠ .console) :=
  ⟨by decide, by decide⟩

/-- The hypotheses of MomentsAndSyncTransferTheSlots are met. -/
theorem witness_moments_and_sync_transfer_the_slots :
    (up.takesNow ∧ up.Calm ∧ up.pos.owner = .console ∧ axisOf 0 = some .pan ∧ momentOf 3 = some .held ∧ up.pos.pan.slot = none)
    ∧ ((panned { parked with slot := some 20000 }).takesNow ∧ (panned { parked with slot := some 20000 }).Calm
      ∧ (panned { parked with slot := some 20000 }).pos.owner = .console ∧ momentOf 0 = some .immediate
      ∧ (panned { parked with slot := some 20000 }).pos.pan.slot = some 20000
      ∧ (panned { parked with slot := some 20000 }).pos.pan.referenced = true
      ∧ (panned { parked with slot := some 20000 }).mastReady = true
      ∧ (panned { parked with slot := some 20000 }).work.map.firstBlocked 0 20000 = none)
    ∧ (((momented .onSync).setAxis .pan { parked with slot := some 20000 }).takesNow
      ∧ ((momented .onSync).setAxis .pan { parked with slot := some 20000 }).Calm
      ∧ ((momented .onSync).setAxis .pan { parked with slot := some 20000 }).pos.owner = .console
      ∧ (((momented .onSync).setAxis .pan { parked with slot := some 20000 }).axisSettings .pan).moment = .onSync
      ∧ (((momented .onSync).setAxis .pan { parked with slot := some 20000 }).axisSettings .tilt).moment = .immediate
      ∧ (((momented .onSync).setAxis .pan { parked with slot := some 20000 }).axisSettings .pol).moment = .immediate
      ∧ ((momented .onSync).setAxis .pan { parked with slot := some 20000 }).pos.pan.slot = some 20000
      ∧ ((momented .onSync).setAxis .pan { parked with slot := some 20000 }).mastReady = true)
    ∧ (((momented .onSync).setAxis .pan { slot := some 5 }).takesNow ∧ ((momented .onSync).setAxis .pan { slot := some 5 }).Calm
      ∧ ((momented .onSync).setAxis .pan { slot := some 5 }).pos.pan.referenced = false
      ∧ ((momented .onSync).setAxis .pan { slot := some 5 }).pos.pan.slot = some 5)
    ∧ (lowOnSync.takesNow ∧ lowOnSync.Calm ∧ lowOnSync.mastReady = false ∧ lowOnSync.pos.pan.slot = some 5)
    ∧ (((walled (momented .onSync)).setAxis .pan { parked with slot := some 20000 }).takesNow
      ∧ ((walled (momented .onSync)).setAxis .pan { parked with slot := some 20000 }).Calm
      ∧ ((walled (momented .onSync)).setAxis .pan { parked with slot := some 20000 }).mastReady = true
      ∧ ((walled (momented .onSync)).setAxis .pan { parked with slot := some 20000 }).violation = none
      ∧ ((walled (momented .onSync)).setAxis .pan { parked with slot := some 20000 }).work.map.firstBlocked 0 20000 = some 37) :=
  ⟨by decide, by decide, by decide, by decide, by decide, by decide +kernel⟩

/-- The hypotheses of StopsBringAxesToAStand are met. -/
theorem witness_stops_bring_axes_to_a_stand :
    ((panned { parked with motion := .slewing, target := 5, slot := some 7 }).takesNow
      ∧ (panned { parked with motion := .slewing, target := 5, slot := some 7 }).Calm
      ∧ (panned { parked with motion := .slewing, target := 5, slot := some 7 }).pos.owner = .console ∧ axisOf 0 = some .pan)
    ∧ (up.takesNow ∧ up.Calm)
    ∧ (up.takesNow ∧ up.Calm ∧ 3 < (4 : Byte).toNat)
    ∧ ((panned { motion := .jogging }).takesNow ∧ (panned { motion := .jogging }).Calm
      ∧ ((panned { motion := .jogging }).axis .pan).motion = .jogging) :=
  ⟨by decide, by decide, by decide, by decide⟩

/-- The hypotheses of JogRunsTowardItsEndPoint are met. -/
theorem witness_jog_runs_toward_its_end_point :
    (low.takesNow ∧ low.Calm ∧ low.pos.owner = .console ∧ axisOf 0 = some .pan ∧ low.mastReady = false)
    ∧ ((panned { parked with motion := .homing }).takesNow ∧ (panned { parked with motion := .homing }).Calm
      ∧ (panned { parked with motion := .homing }).mastReady = true
      ∧ (panned { parked with motion := .homing }).pos.pan.motion = .homing)
    ∧ ((panned {}).takesNow ∧ (panned {}).Calm ∧ (panned {}).mastReady = true ∧ (panned {}).pos.pan.motion = .unref
      ∧ (panned {}).pos.pan.referenced = false)
    ∧ (jogging.takesNow ∧ jogging.Calm ∧ jogging.mastReady = true ∧ jogging.pos.pan.motion = .jogging ∧ jogging.pos.pan.driveUp = true)
    ∧ ((tilted { parked with position := 4499 }).takesNow ∧ (tilted { parked with position := 4499 }).Calm ∧ axisOf 1 = some .tilt
      ∧ (tilted { parked with position := 4499 }).pos.tilt.position < 4500)
    ∧ ((tilted { parked with position := -1000 }).takesNow ∧ (tilted { parked with position := -1000 }).Calm
      ∧ (tilted { parked with position := -1000 }).pos.tilt.position = travelLow .tilt)
    ∧ ((panned { parked with position := 19999 }).takesNow ∧ (panned { parked with position := 19999 }).Calm
      ∧ (panned { parked with position := 19999 }).mastReady = true
      ∧ ((panned { parked with position := 19999 }).work.map.jogEnd 19999 true).1 = 20000)
    ∧ (((walled up).setAxis .pan { parked with position := 499 }).takesNow ∧ ((walled up).setAxis .pan { parked with position := 499 }).Calm
      ∧ ((walled up).setAxis .pan { parked with position := 499 }).mastReady = true
      ∧ ((walled up).setAxis .pan { parked with position := 499 }).violation = none
      ∧ ((walled up).setAxis .pan { parked with position := 499 }).work.map.jogEnd 499 true = (499, some 37)) :=
  ⟨by decide, by decide, by decide, by decide, by decide, by decide, by decide, by decide +kernel⟩

/-- The hypotheses of HomeBeginsByTheSwitches are met. -/
theorem witness_home_begins_by_the_switches :
    ((panned {}).takesNow ∧ (panned {}).Calm ∧ (panned {}).pos.owner = .console ∧ axisOf 0 = some .pan ∧ (panned {}).pos.pan.motion = .unref)
    ∧ (up.takesNow ∧ up.Calm ∧ axisOf 2 = some .pol ∧ up.pos.pol.motion = .rest)
    ∧ ((panned { parked with motion := .settling }).takesNow ∧ (panned { parked with motion := .settling }).Calm
      ∧ (panned { parked with motion := .settling }).pos.pan.motion = .settling)
    ∧ (((walled up).setAxis .pan { parked with position := 2000 }).takesNow ∧ ((walled up).setAxis .pan { parked with position := 2000 }).Calm
      ∧ ((walled up).setAxis .pan { parked with position := 2000 }).pos.pan.motion = .rest
      ∧ ((walled up).setAxis .pan { parked with position := 2000 }).violation = none
      ∧ ((walled up).setAxis .pan { parked with position := 2000 }).work.map.firstBlocked 2000 150 = some 39) :=
  ⟨by decide, by decide, by decide, by decide +kernel⟩

/-- The hypotheses of StowMovesPanAndTilt are met. -/
theorem witness_stow_moves_pan_and_tilt :
    (up.takesNow ∧ up.Calm ∧ up.pos.owner = .console ∧ up.work.map.firstBlocked up.pos.pan.position 0 = none)
    ∧ (((panned {}).setAxis .tilt {}).takesNow ∧ ((panned {}).setAxis .tilt {}).Calm
      ∧ ((panned {}).setAxis .tilt {}).pos.pan.referenced = false)
    ∧ (((walled up).setAxis .pan { parked with position := 20000 }).takesNow
      ∧ ((walled up).setAxis .pan { parked with position := 20000 }).Calm
      ∧ ((walled up).setAxis .pan { parked with position := 20000 }).pos.pan.referenced = true
      ∧ ((walled up).setAxis .pan { parked with position := 20000 }).violation = none
      ∧ (((walled up).setAxis .pan { parked with position := 20000 }).work.map.firstBlocked 20000 0).isSome = true) :=
  ⟨by decide, by decide, by decide +kernel⟩

/-- The hypotheses of SlewSetAndIndexSetAreBodySettings are met. -/
theorem witness_slew_set_and_index_set_are_body_settings :
    (up.takesNow ∧ axisOf 0 = some .pan ∧ slewClassOf 3 = some .threeEighths ∧ up.lock = false ∧ (250 : Half).toInt = 250)
    ∧ (locked.takesNow ∧ locked.lock = true ∧ (64546 : Half).toInt = -990)
    ∧ (up.takesNow ∧ 3 < (4 : Byte).toNat ∧ 250 < (251 : Half).toInt)
    ∧ (up.takesNow ∧ 2 < (3 : Byte).toNat) :=
  ⟨by decide, by decide, by decide, by decide⟩

/-- The hypotheses of EncoderCountsAndSettlesMoveTheAxis are met. -/
theorem witness_encoder_counts_and_settles_move_the_axis :
    (up.Calm ∧ (up.axis .pan).motion = .rest)
    ∧ ((panned { parked with motion := .slewing, target := 7, driveUp := true }).Calm
      ∧ ((panned { parked with motion := .slewing, target := 7, driveUp := true }).axis .pan).motion = .slewing
      ∧ 5 < ((1 : Int) - 7).natAbs ∧ (1 : Int) < 7)
    ∧ ((panned { parked with motion := .slewing, target := 7 }).Calm
      ∧ ((panned { parked with motion := .slewing, target := 7 }).axis .pan).driveUp ≠ decide ((1 : Int) < 7))
    ∧ ((panned { parked with motion := .slewing, target := 6, driveUp := true }).Calm
      ∧ ((panned { parked with motion := .slewing, target := 6, driveUp := true }).axis .pan).motion = .slewing
      ∧ ((1 : Int) - 6).natAbs ≤ 5)
    ∧ ((panned { parked with motion := .settling, settleTimer := some 1 }).Calm
      ∧ ((panned { parked with motion := .settling, settleTimer := some 1 }).axis .pan).motion = .settling
      ∧ ((panned { parked with motion := .settling, settleTimer := some 1 }).axis .pan).origin = .console
      ∧ ((panned { parked with motion := .settling, settleTimer := some 1 }).axis .pan).slot = none)
    ∧ ((panned { parked with motion := .settling, position := 5, settleTimer := some 1 }).Calm
      ∧ ((panned { parked with motion := .settling, position := 5, settleTimer := some 1 }).axis .pan).motion = .settling
      ∧ 5 < ((6 : Int) - 0).natAbs)
    ∧ ((panned { parked with motion := .jogging, jog := some { positive := true, fast := false, endPoint := some 1 } }).Calm
      ∧ ((panned { parked with motion := .jogging, jog := some { positive := true, fast := false, endPoint := some 1 } }).axis .pan).motion = .jogging) :=
  ⟨by decide, by decide, by decide, by decide, by decide, by decide, by decide⟩

/-- The hypotheses of StallsTripAndHold are met. -/
theorem witness_stalls_trip_and_hold :
    ((panned { parked with motion := .slewing }).Calm ∧ ((panned { parked with motion := .slewing }).axis .pan).motion = .slewing
      ∧ (panned { parked with motion := .slewing }).search.state = .idle ∧ (panned { parked with motion := .slewing }).seq.state = .idle
      ∧ (panned { parked with motion := .slewing }).pos.owner = .console
      ∧ (panned { parked with motion := .slewing }).mast.state = .rest
      ∧ (panned { parked with motion := .slewing }).trips.axisStall = fixedSource { raising := .stop, lowering := .goOn, rest := .noAction, positioner := .hold, transmit := .inhibit })
    ∧ (up.Calm ∧ (up.axis .pan).motion = .rest)
    ∧ (raising.Calm ∧ raising.mast.state = .raising
      ∧ raising.trips.mastStall = fixedSource { raising := .stop, lowering := .stop, rest := .noAction, positioner := .noAction, transmit := .inhibit }) :=
  ⟨by decide, by decide, by decide⟩

/-- The hypotheses of MastToSetsOutForTheHeight are met. -/
theorem witness_mast_to_sets_out_for_the_height :
    (up.takesNow ∧ up.Calm ∧ up.pos.owner ≠ .search ∧ up.mast.owner = .console ∧ up.mast.referenced = true ∧ up.mast.state = .rest
      ∧ 10040 ≤ 2 * up.mast.counter + up.work.mast.tolerance)
    ∧ (up.takesNow ∧ up.Calm ∧ min 15001 up.raiseLimit = 15000 ∧ up.mast.counter < (15000 - up.work.mast.stopLead) / 2)
    ∧ (up.takesNow ∧ up.Calm ∧ ¬ 1800 < up.work.mast.clearance ∧ (1800 + up.work.mast.stopLead) / 2 < up.mast.counter)
    ∧ (low.takesNow ∧ low.Calm ∧ low.windowClosed = false ∧ 1 < low.work.mast.clearance
      ∧ low.mast.counter ≤ (low.work.mast.clearance + low.work.mast.stopLead + 1) / 2
      ∧ (1 + low.work.mast.stopLead) / 2 < low.mast.counter ∧ low.mast.state = .rest)
    ∧ ((masted {}).takesNow ∧ (masted {}).Calm ∧ (masted {}).mast.referenced = false)
    ∧ (raising.takesNow ∧ raising.Calm ∧ raising.mast.referenced = true ∧ raising.mast.state = .raising)
    ∧ ((masted { up.mast with owner := .sequence }).takesNow ∧ (masted { up.mast with owner := .sequence }).Calm
      ∧ (masted { up.mast with owner := .sequence }).mast.owner ≠ .console) :=
  ⟨by decide, by decide, by decide, by decide, by decide, by decide, by decide⟩

/-- The hypotheses of MastLowersAndStops are met. -/
theorem witness_mast_lowers_and_stops :
    (up.takesNow ∧ up.Calm ∧ up.pos.owner ≠ .search ∧ up.mast.owner = .console ∧ up.lines.nest.level = false ∧ up.mast.state = .rest
      ∧ (up.work.mast.clearance + up.work.mast.stopLead + 1) / 2 < up.mast.counter)
    ∧ (low.takesNow ∧ low.Calm ∧ low.windowClosed = false ∧ 0 < low.work.mast.clearance
      ∧ low.mast.counter ≤ (low.work.mast.clearance + low.work.mast.stopLead + 1) / 2)
    ∧ (nested.takesNow ∧ nested.Calm ∧ nested.mast.state = .nested)
    ∧ (waiting.takesNow ∧ waiting.Calm ∧ waiting.mast.owner = .console ∧ waiting.mast.state = .clearWait ∧ waiting.lines.nest.level = false)
    ∧ ((masted { up.mast with owner := .sequence }).takesNow ∧ (masted { up.mast with owner := .sequence }).Calm
      ∧ (masted { up.mast with owner := .sequence }).mast.owner ≠ .console)
    ∧ (raising.takesNow ∧ raising.Calm ∧ raising.mast.owner = .console ∧ raising.mast.state = .raising)
    ∧ ((masted { up.mast with state := .settling }).takesNow ∧ (masted { up.mast with state := .settling }).Calm
      ∧ (masted { up.mast with state := .settling }).mast.owner = .console
      ∧ (masted { up.mast with state := .settling }).mast.state = .settling) :=
  ⟨by decide, by decide, by decide, by decide, by decide, by decide, by decide⟩

/-- The hypotheses of MastParamReplacesOneSetting are met. -/
theorem witness_mast_param_replaces_one_setting :
    (nested.takesNow ∧ nested.Calm ∧ nested.mast.state = .nested ∧ nested.mast.target = 0 ∧ nested.work.mast.clearance ≤ 15000
      ∧ nested.lock = false)
    ∧ (nested.takesNow ∧ nested.Calm)
    ∧ (nested.takesNow ∧ nested.Calm)
    ∧ (nested.takesNow ∧ 5000 < (5001 : Half).toNat)
    ∧ (nested.takesNow ∧ 5 < (6 : Byte).toNat)
    ∧ (nestedLocked.takesNow ∧ nestedLocked.lock = true ∧ 500 ≤ nestedLocked.work.mast.maxExtension) :=
  ⟨by decide, by decide, by decide, by decide, by decide, by decide⟩

/-- The hypotheses of MastCountsEndPauseAndTopUp are met. -/
theorem witness_mast_counts_end_pause_and_top_up :
    ((masted { up.mast with counter := 8000, target := 0 }).Calm
      ∧ (masted { up.mast with counter := 8000, target := 0 }).mast.owner = .console
      ∧ (masted { up.mast with counter := 8000, target := 0 }).mast.state = .rest
      ∧ (masted { up.mast with counter := 8000, target := 0 }).mast.counter = 8000)
    ∧ ((masted { up.mast with counter := 4950 }).Calm ∧ (masted { up.mast with counter := 4950 }).mast.state = .rest
      ∧ 2 * 4949 + (masted { up.mast with counter := 4950 }).work.mast.sagAllowance < (masted { up.mast with counter := 4950 }).mast.target
      ∧ 4949 < ((masted { up.mast with counter := 4950 }).mast.target - (masted { up.mast with counter := 4950 }).work.mast.stopLead) / 2)
    ∧ ((masted { raising.mast with stopCount := 5002, progress := 9 }).Calm
      ∧ (masted { raising.mast with stopCount := 5002, progress := 9 }).mast.state = .raising
      ∧ 5001 < (masted { raising.mast with stopCount := 5002, progress := 9 }).mast.stopCount)
    ∧ ((masted { raising.mast with stopCount := 5001 }).Calm ∧ (masted { raising.mast with stopCount := 5001 }).mast.state = .raising
      ∧ (masted { raising.mast with stopCount := 5001 }).mast.stopCount ≤ 5001)
    ∧ ((masted { up.mast with state := .lowering, counter := 931, target := 0, stopCount := 30, leadInUse := 60 }).Calm
      ∧ (masted { up.mast with state := .lowering, counter := 931, target := 0, stopCount := 30, leadInUse := 60 }).mast.state = .lowering
      ∧ (masted { up.mast with state := .lowering, counter := 931, target := 0, stopCount := 30, leadInUse := 60 }).windowClosed = false
      ∧ (masted { up.mast with state := .lowering, counter := 931, target := 0, stopCount := 30, leadInUse := 60 }).lines.nest.level = false
      ∧ (masted { up.mast with state := .lowering, counter := 931, target := 0, stopCount := 30, leadInUse := 60 }).mast.target < (masted { up.mast with state := .lowering, counter := 931, target := 0, stopCount := 30, leadInUse := 60 }).work.mast.clearance
      ∧ 930 ≤ ((masted { up.mast with state := .lowering, counter := 931, target := 0, stopCount := 30, leadInUse := 60 }).work.mast.clearance + (masted { up.mast with state := .lowering, counter := 931, target := 0, stopCount := 30, leadInUse := 60 }).mast.leadInUse + 1) / 2)
    ∧ ((masted { up.mast with state := .settling }).Calm ∧ (masted { up.mast with state := .settling }).mast.state = .settling) :=
  ⟨by decide, by decide, by decide, by decide, by decide, by decide⟩

/-- The hypotheses of MastSettlesThenStandsOrIsNudged are met: a move of the console and of a trip that has reached its height; a nudge up;
one down; one down that must pause, told by a trip's owner; the two ends after a lowered target; a third deviation; the two ends after a
raise that a limit stopped; a stop; a top-up; and a mast that does not settle. -/
theorem witness_mast_settles_then_stands_or_is_nudged :
    ((settling 10040 .afterMove).Calm ∧ (settling 10040 .afterMove).mast.state = .settling ∧ (settling 10040 .afterMove).mast.origin = .console
      ∧ 10040 ≤ 2 * (settling 10040 .afterMove).mast.counter + up.work.mast.tolerance
      ∧ 10040 ≤ 2 * (settling 10040 .afterMove).mast.counter + up.work.mast.sagAllowance)
    ∧ ((masted { (settling 9960 .afterMove).mast with owner := .trip, origin := .trip }).Calm ∧ MastOwner.trip ≠ .sequence
      ∧ 2 * up.mast.counter ≤ 9960 + up.work.mast.tolerance)
    ∧ (2 * (settling 10041 .afterMove).mast.counter + up.work.mast.tolerance < 10041 ∧ (settling 10041 .afterMove).mast.nudges < 2
      ∧ (settling 10041 .afterMove).mast.counter < 10041 / 2 ∧ 2 * (settling 10041 .afterMove).mast.counter < up.raiseLimit)
    ∧ ((settling 9900 .afterMove).Calm ∧ 9900 + up.work.mast.tolerance < 2 * (settling 9900 .afterMove).mast.counter
      ∧ (settling 9900 .afterMove).mast.referenced = true ∧ up.work.mast.clearance ≤ 9900)
    ∧ ((masted { low.mast with state := .settling, target := 1700 }).Calm ∧ up.windowClosed = false ∧ 1700 < up.work.mast.clearance
      ∧ 1700 + up.work.mast.tolerance < 2 * low.mast.counter
      ∧ ¬ (up.work.mast.clearance + up.work.mast.stopLead + 1) / 2 < low.mast.counter
      ∧ (masted { low.mast with state := .settling, target := 1700, owner := .trip, origin := .trip }).Calm)
    ∧ ((settling 9960 .afterLowered).Calm ∧ 2 * (settling 9960 .afterLowered).mast.counter ≤ 9960 + up.work.mast.tolerance)
    ∧ ((settling 9959 .afterLowered).Calm ∧ 9959 + up.work.mast.tolerance < 2 * (settling 9959 .afterLowered).mast.counter)
    ∧ ((masted { (settling 10041 .afterMove).mast with nudges := 2 }).Calm ∧ 10041 ≤ 2 * up.mast.counter + up.work.mast.sagAllowance)
    ∧ ((settling 9000 (.afterLimit 10040)).Calm ∧ (settling 9000 (.afterLimit 10040)).mast.settleKind = .afterLimit 10040
      ∧ 10040 ≤ 2 * up.mast.counter + up.work.mast.tolerance ∧ (settling 9000 (.afterLimit 10041)).Calm
      ∧ 2 * up.mast.counter + up.work.mast.tolerance < 10041)
    ∧ ((settling 10000 (.afterStop .stopped)).Calm ∧ (settling 10000 (.afterStop .stopped)).mast.settleKind = .afterStop .stopped)
    ∧ ((settling 10000 .afterTopUp).Calm ∧ (settling 10000 .afterTopUp).mast.settleKind = .afterTopUp)
    ∧ (up.Calm ∧ up.mast.state ≠ .settling) :=
  ⟨by decide, by decide, by decide, by decide, by decide, by decide, by decide, by decide, by decide, by decide, by decide, by decide⟩

/-- The hypotheses of ConversionsFillTheirFilters are met. -/
theorem witness_conversions_fill_their_filters :
    (up.Calm ∧ up.search.measuring = .idle)
    ∧ (sampling.Calm ∧ sampling.search.measuring = .sampling [] ∧ 1 < sampling.search.profile.samples)
    ∧ (quiet.Calm ∧ quiet.trips.tilt.config.enabled = false ∧ 500 < ((truncDiv ((4095 - 2048) * 64) 1024)).natAbs.succ * 5)
    ∧ (quiet.Calm ∧ quiet.trips.tilt.config.enabled = false)
    ∧ (tiltedQuiet.Calm ∧ tiltedQuiet.trips.tilt.config.enabled = false ∧ tiltedQuiet.sense.pitch.filter = [3048])
    ∧ (quiet.Calm ∧ quiet.trips.supply.config.enabled = false ∧ 0 < quiet.work.sense.supplyLow)
    ∧ (quiet.Calm ∧ quiet.work.sense.supplyLow + 10 < 4095 * 400 / 4096)
    ∧ (quiet.Calm ∧ quiet.work.sense.supplyLow ≤ 1200 * 400 / 4096 ∧ 1200 * 400 / 4096 ≤ quiet.work.sense.supplyLow + 10) :=
  ⟨by decide, by decide, by decide, by decide, by decide, by decide, by decide, by decide⟩

/-- The hypotheses of LinesChangeAfterTheirDebounceTime are met. -/
theorem witness_lines_change_after_their_debounce_time :
    ((up.lines.line .panIndex).raw = false)
    ∧ ((up.lines.line .panIndex).raw ≠ true ∧ (up.lines.line .panIndex).level ≠ true)
    ∧ (((lined { up.lines with aux := { raw := true } }).lines.line .aux).raw ≠ false
      ∧ ((lined { up.lines with aux := { raw := true } }).lines.line .aux).level = false)
    ∧ ((lined { up.lines with wrap := { raw := true } }).Calm
      ∧ ((lined { up.lines with wrap := { raw := true } }).lines.line .wrap).raw ≠ ((lined { up.lines with wrap := { raw := true } }).lines.line .wrap).level)
    ∧ (unnesting.Calm ∧ unnesting.lines.nest = { raw := false, level := true, timer := unnesting.lines.nest.timer }
      ∧ unnesting.mast.state = .nested ∧ unnesting.mast.compressor = false ∧ unnesting.mast.vent = false)
    ∧ (nesting.Calm ∧ nesting.lines.nest = { raw := true, level := false, timer := nesting.lines.nest.timer } ∧ nesting.mast.state = .lowering
      ∧ nesting.mast.target = 0 ∧ nesting.mast.owner = .console ∧ nesting.mast.origin = .console)
    ∧ ((lined { up.lines with estop := { raw := true } }).Calm
      ∧ (lined { up.lines with estop := { raw := true } }).lines.estop = { raw := true, level := false, timer := (lined { up.lines with estop := { raw := true } }).lines.estop.timer }
      ∧ (lined { up.lines with estop := { raw := true } }).pos.owner = .console
      ∧ (lined { up.lines with estop := { raw := true } }).search.state = .idle
      ∧ (lined { up.lines with estop := { raw := true } }).seq.state = .idle
      ∧ (lined { up.lines with estop := { raw := true } }).mast.state = .rest
      ∧ (lined { up.lines with estop := { raw := true } }).trips.estop = fixedSource { raising := .stop, lowering := .stop, rest := .noAction, positioner := .hold, transmit := .inhibit }
      ∧ (lined { up.lines with estop := { raw := true } }).trips.drive.cause = driveCause (lined { up.lines with estop := { raw := true } }).lines
      ∧ (lined { up.lines with estop := { raw := true } }).trips.pressure.cause = contactCause (lined { up.lines with estop := { raw := true } }).work.sense.pressurePolarity (lined { up.lines with estop := { raw := true } }).lines.pressure.level
      ∧ (lined { up.lines with estop := { raw := true } }).trips.aux.cause = contactCause (lined { up.lines with estop := { raw := true } }).work.sense.auxPolarity (lined { up.lines with estop := { raw := true } }).lines.aux.level) :=
  ⟨by decide, by decide, by decide, by decide, by decide, by decide, by decide⟩

/-- The hypotheses of IndexEdgesCorrectSlipOrReference are met. -/
theorem witness_index_edges_correct_slip_or_reference :
    ((edged 130 parked).Calm ∧ ((edged 130 parked).lines.line .panIndex).raw ≠ ((edged 130 parked).lines.line .panIndex).level
      ∧ ((edged 130 parked).lines.line .panIndex).captured = some (130, true)
      ∧ (((edged 130 parked).axisSettings .pan).indexPosition - 130).natAbs ≤ 20 ∧ (edged 130 parked).pos.pan.motion = .rest
      ∧ (edged 130 parked).pos.pan.referenced = true)
    ∧ ((edged 129 parked).Calm ∧ ((edged 129 parked).lines.line .panIndex).captured = some (129, true)
      ∧ 20 < (((edged 129 parked).axisSettings .pan).indexPosition - 129).natAbs)
    ∧ ((edged 0 { motion := .homing, homing := some { begunReferenced := false, phase := .seek } }).Calm
      ∧ (edged 0 { motion := .homing, homing := some { begunReferenced := false, phase := .seek } }).pos.pan.motion = .homing
      ∧ (edged 0 { motion := .homing, homing := some { begunReferenced := false, phase := .seek } }).pos.pan.homing = some { begunReferenced := false, phase := .seek }) :=
  ⟨by decide, by decide, by decide⟩

/-- The hypotheses of WindIsMeasuredByGates are met. -/
theorem witness_wind_is_measured_by_gates :
    (quiet.takesNow ∧ quiet.Calm ∧ quiet.trips.wind.config.enabled = false ∧ (5000 : Half).toNat ≤ 5000 ∧ (600 : Half).toNat ≤ 600)
    ∧ (quiet.takesNow ∧ quiet.Calm ∧ quiet.sense.gust ≠ 1)
    ∧ (gusty.takesNow ∧ gusty.Calm ∧ gusty.sense.gust = 1 ∧ gusty.work.sense.windLimit ≠ 0) :=
  ⟨by decide, by decide, by decide⟩

/-- The hypotheses of CalibrationAndLimitsReplaceTheirSettings are met. -/
theorem witness_calibration_and_limits_replace_their_settings :
    (quiet.takesNow ∧ quiet.Calm ∧ quiet.trips.tilt.config.enabled = false ∧ quiet.trips.supply.config.enabled = false
      ∧ quiet.trips.pressure.config.enabled = false ∧ quiet.trips.aux.config.enabled = false
      ∧ quiet.trips.estop.cause = quiet.lines.estop.level ∧ quiet.trips.drive.cause = driveCause quiet.lines)
    ∧ (calItemOf 1 = some .rollZero)
    ∧ (calItemOf 2 = some .pitchGain)
    ∧ (calItemOf 3 = some .rollGain)
    ∧ (calItemOf 4 = some .supplyScale)
    ∧ (calItemOf 5 = some .pressurePolarity)
    ∧ (calItemOf 6 = some .auxPolarity)
    ∧ (quiet.takesNow ∧ quiet.Calm ∧ quiet.trips.tilt.config.enabled = false ∧ quiet.trips.supply.config.enabled = false
      ∧ quiet.trips.pressure.config.enabled = false ∧ quiet.trips.aux.config.enabled = false
      ∧ quiet.trips.estop.cause = quiet.lines.estop.level ∧ quiet.trips.drive.cause = driveCause quiet.lines)
    ∧ (calItemOf 8 = none)
    ∧ (calItemOf 7 = some .levelHere)
    ∧ (measured.takesNow ∧ measured.Calm ∧ measured.sense.pitch.filter ≠ [] ∧ measured.sense.roll.filter ≠ []) :=
  ⟨by decide, by decide, by decide, by decide, by decide, by decide, by decide, by decide, by decide, by decide, by decide⟩

/-- The hypotheses of TripConfigReplacesOrStages are met. -/
theorem witness_trip_config_replaces_or_stages :
    (up.takesNow ∧ up.Calm ∧ sourceOf 5 = some .wind ∧ up.lock = false ∧ up.trips.wind.state = .clear ∧ up.trips.wind.config.enabled = true)
    ∧ (up.takesNow ∧ up.Calm ∧ sourceOf 9 = some .aux ∧ up.trips.aux.state = .clear ∧ up.trips.aux.config.enabled = false
      ∧ up.trips.aux.cause = false)
    ∧ (windy.takesNow ∧ windy.trips.wind.state ≠ .clear ∧ windy.trips.wind.config.enabled = true)
    ∧ (up.takesNow ∧ (4 : Byte).toNat < 5 ∧ 2 < (3 : Byte).toNat)
    ∧ (locked.takesNow ∧ locked.lock = true) :=
  ⟨by decide, by decide, by decide, by decide, by decide⟩

/-- The hypotheses of ReleasesAndTripClearClearSources are met. -/
theorem witness_releases_and_trip_clear_clear_sources :
    (windy.takesNow ∧ (windy.trips.source .wind).state = .releasing
      ∧ ((windy.trips.source .wind).staged.getD (windy.trips.source .wind).config).mode = .selfClearing ∧ (1023 : Half).toNat ≤ 0x3FF)
    ∧ (windyStaged.takesNow ∧ (windyStaged.trips.source .wind).state = .releasing
      ∧ ((windyStaged.trips.source .wind).staged.getD (windyStaged.trips.source .wind).config).mode = .latched)
    ∧ (latched.takesNow ∧ (1 : Half).getLsbD (sourceIndex .estop) = true ∧ (latched.trips.source .estop).state = .latchedWait)
    ∧ (up.takesNow ∧ 0x3FF < (1024 : Half).toNat ∧ (up.trips.source .estop).state ≠ .releasing)
    ∧ ((windStands .latched).trips.wind.config.enabled = true ∧ (windStands .latched).trips.wind.cause = true
      ∧ (windStands .latched).trips.wind.state = .active ∧ (windStands .latched).sense.pulses < 26
      ∧ ((windStands .latched).trips.wind.staged.getD (windStands .latched).trips.wind.config).mode = .latched)
    ∧ (max 1 ((factorySense.windLimit * factorySense.gateLength + factorySense.windRun * 10 - 1) / (factorySense.windRun * 10)) = 26
      ∧ ((windStands .selfClearing).trips.wind.staged.getD (windStands .selfClearing).trips.wind.config).mode = .selfClearing)
    ∧ ((windAt .clear).trips.wind.config.enabled = true ∧ (windAt .clear).trips.wind.cause = false ∧ (windAt .clear).sense.gust = 1
      ∧ (windAt .clear).work.sense.windLimit ≠ 0 ∧ (windAt .clear).trips.wind.state = .clear)
    ∧ ((windAt .latchedWait).trips.wind.state = .latchedWait ∧ (windAt .releasing).trips.wind.state = .releasing) :=
  ⟨by decide, by decide, by decide, by decide, by decide, by decide, by decide, by decide⟩

/-- The hypotheses of TripsTakeAndGiveBackThePlant are met. -/
theorem witness_trips_take_and_give_back_the_plant :
    (Gusting stowFree
      ∧ stowFree.mast.state = .nested ∧ stowFree.pos.pol.motion ≠ .held ∧ stowFree.pos.pan.referenced = true
      ∧ stowFree.pos.tilt.referenced = true ∧ stowFree.work.map.firstBlocked stowFree.pos.pan.position 0 = none)
    ∧ (Gusting stowBarred
      ∧ stowBarred.mast.state = .nested ∧ stowBarred.violation = none ∧ stowBarred.pos.pan.referenced = true
      ∧ (stowBarred.work.map.firstBlocked stowBarred.pos.pan.position 0).isSome = true)
    ∧ (Gusting lowerFree
      ∧ lowerFree.mast.state = .rest ∧ lowerFree.lines.nest.level = false ∧ lowerFree.mast.referenced = true
      ∧ ¬ lowerFree.mast.counter ≤ (lowerFree.work.mast.clearance + lowerFree.work.mast.stopLead + 1) / 2)
    ∧ (Gusting lowerBarred
      ∧ lowerBarred.mast.state = .rest ∧ lowerBarred.windowClosed = false ∧ 0 < lowerBarred.work.mast.clearance
      ∧ lowerBarred.mast.counter ≤ (lowerBarred.work.mast.clearance + lowerBarred.work.mast.stopLead + 1) / 2)
    ∧ (Releasing windyHeld
      ∧ windyHeld.pos.owner = .trip ∧ windyHeld.pos.enacted = .hold ∧ windyHeld.pos.stowAwaits = {} ∧ windyHeld.mastSteady = true)
    ∧ (Releasing windyStowing
      ∧ windyStowing.pos.owner = .trip ∧ windyStowing.pos.enacted = .stow ∧ windyStowing.mastSteady = true)
    ∧ (Releasing windyMast
      ∧ windyMast.pos.owner ≠ .trip ∧ windyMast.pos.enacted = .noAction ∧ windyMast.mast.state = .held)
    ∧ (tripStowing.action = {} ∧ tripStowing.gate.request = false ∧ tripStowing.gate.state = .off ∧ tripStowing.mastSteady = true
      ∧ tripStowing.pos.owner = .trip ∧ tripStowing.pos.enacted = .noAction
      ∧ allAxes.all (fun b => tripStowing.pos.stowAwaits.has b == decide (b = .pan)) = true ∧ tripStowing.pos.pan.motion = .settling
      ∧ tripStowing.pos.pan.settleTimer.isSome = true ∧ tripStowing.pos.pan.origin = .trip ∧ tripStowing.pos.pan.referenced = true
      ∧ tripStowing.pos.pan.slot = none)
    ∧ (tripNesting.Calm ∧ tripNesting.lines.nest.raw = true ∧ tripNesting.lines.nest.level = false ∧ tripNesting.mast.state = .lowering
      ∧ tripNesting.mast.target = 0 ∧ tripNesting.mast.owner = .trip ∧ tripNesting.mast.origin = .trip) :=
  ⟨by decide, by decide +kernel, by decide, by decide, by decide, by decide, by decide, by decide, by decide⟩

/-- The hypotheses of SearchBeginsAtTheCentre are met. -/
theorem witness_search_begins_at_the_centre :
    (up.takesNow ∧ up.Calm ∧ up.pos.owner = .console ∧ up.pos.pan.referenced = true ∧ up.pos.tilt.referenced = true
      ∧ up.pos.pan.motion = .rest ∧ up.pos.tilt.motion = .rest ∧ up.mast.state = .rest ∧ up.mastReady = true ∧ up.site? 1 = some siteOne)
    ∧ (up.takesNow ∧ up.Calm ∧ up.pos.owner = .console ∧ up.pos.pan.referenced = true ∧ up.pos.tilt.referenced = true
      ∧ up.pos.pan.motion = .rest ∧ up.pos.tilt.motion = .rest ∧ up.mast.state = .rest ∧ up.mastReady = true
      ∧ (rawSolution (up.solveInputs 1 up.extension)).isOk = true)
    ∧ (up.takesNow ∧ ¬ (2 : Byte).toNat ≤ 1)
    ∧ (stopped.takesNow ∧ stopped.positionerInForce = true)
    ∧ (owned.takesNow ∧ owned.positionerInForce = false ∧ owned.pos.owner ≠ .console)
    ∧ ((panned {}).takesNow ∧ (panned {}).Calm ∧ (panned {}).pos.owner = .console ∧ (panned {}).pos.pan.referenced = false)
    ∧ (raising.takesNow ∧ raising.Calm ∧ raising.pos.pan.referenced = true ∧ raising.mast.state ≠ .rest)
    ∧ (low.takesNow ∧ low.Calm ∧ low.mast.state = .rest ∧ low.mastReady = false)
    ∧ (up.takesNow ∧ up.Calm ∧ up.pos.owner = .console ∧ up.pos.pan.referenced = true ∧ up.pos.tilt.referenced = true
      ∧ up.pos.pan.motion = .rest ∧ up.pos.tilt.motion = .rest ∧ up.mast.state = .rest ∧ up.mastReady = true ∧ up.site? 15 = none) :=
  ⟨by decide, by decide +kernel, by decide, by decide, by decide, by decide, by decide, by decide, by decide⟩

/-- The hypotheses of SearchesMeasureJudgeAndEnd are met. -/
theorem witness_searches_measure_judge_and_end :
    (searching.takesNow ∧ searching.Calm ∧ searching.search.state ≠ .idle ∧ searching.search.measuring = .dwelling
      ∧ searching.pos.owner = .search ∧ searching.search.ownerBefore = some .console)
    ∧ (up.takesNow ∧ up.search.state = .idle)
    ∧ (Completing (centred 2000)
      ∧ (centred 2000).search.state = .measureCentre ∧ (centred 2000).search.measuring = .sampling (List.replicate 15 2000)
      ∧ ¬ (∃ c ∈ List.replicate 15 2000 ++ [2000], (centred 2000).sense.levelCeiling ≤ c)
      ∧ (centred 2000).sense.levelFloor ≤ (List.replicate 15 2000 ++ [2000]).sum / (15 + 1)
      ∧ ((100 : Int) - 0).natAbs ≤ (centred 2000).search.profile.radius ∧ (centred 2000).work.map.firstBlocked 0 100 = none
      ∧ (centred 2000).pos.pan.target ≠ 100)
    ∧ (∃ c ∈ List.replicate 15 2000 ++ [4095], (centred 2000).sense.levelCeiling ≤ c)
    ∧ (Completing (centred 0)
      ∧ (List.replicate 15 0 ++ [0]).sum / (15 + 1) < (centred 0).sense.levelFloor)
    ∧ (Completing (probing 2000 39)
      ∧ (probing 2000 39).search.state = .probing ∧ (probing 2000 39).search.probeAt < (probing 2000 39).search.probes.length
      ∧ (probing 2000 39).search.profile.budget ≤ 39 + 1
      ∧ (probing 2000 39).work.map.firstBlocked 100 0 = none ∧ (probing 2000 39).pos.pan.target ≠ 0)
    ∧ ((probing 2000 38).Calm ∧ 38 + 1 < (probing 2000 38).search.profile.budget ∧ (probing 2000 38).search.probeAt < 3
      ∧ (probing 2000 38).search.probes[0 + 1]? = some { pan := -100 } ∧ ((-100 : Int) - 0).natAbs ≤ factoryAcquire.radius
      ∧ (probing 2000 38).work.map.firstBlocked 100 (-100) = none ∧ (probing 2000 38).pos.pan.target ≠ -100)
    ∧ ((judged 2009).judge = .centre 2009 { pan := -100, outcome := .level 2009 })
    ∧ (∃ p ∈ (judged 2009).probes, p.outcome = .level 2009 ∧ (judged 2009).centreLevel + (judged 2009).profile.margin < 2009)
    ∧ ((judged 2008).probes.all (fun p => match p.outcome with | .level v => decide (v ≤ 2000 + 8) | _ => true) = true)
    ∧ (Arriving (arriving { state := .probing })
      ∧ (arriving { state := .probing }).search.state = .probing)
    ∧ (Arriving (finishing 500)
      ∧ (finishing 500).search.state = .finishing ∧ (finishing 500).search.final = some .converged
      ∧ (finishing 500).search.origin = some (.site 1) ∧ (finishing 500).search.raw = some (0, 0) ∧ (finishing 500).fix.isSome = true
      ∧ ((finishing 500).search.centrePan - 0).natAbs ≤ 500 ∧ ((finishing 500).site? 1).isSome = true)
    ∧ (Arriving (finishing 501)
      ∧ 500 < ((finishing 501).search.centrePan - 0).natAbs)
    ∧ (Arriving finishingHere
      ∧ finishingHere.search.state = .finishing ∧ finishingHere.search.final = some .budgetSpent ∧ finishingHere.search.origin = some .here) :=
  ⟨by decide, by decide, by decide, by decide, by decide, by decide, by decide, by decide, by decide, by decide, by decide,
   by decide, by decide, by decide⟩

/-- The hypotheses of SearchParamAndTrackSetTheirRecords are met. -/
theorem witness_search_param_and_track_set_their_records :
    (up.takesNow)
    ∧ (up.takesNow)
    ∧ (up.takesNow ∧ 1 < (2 : Byte).toNat) :=
  ⟨by decide, by decide, by decide⟩

/-- The hypotheses of TrackExpiriesAreTested are met. -/
theorem witness_track_expiries_are_tested :
    (up.Calm ∧ up.trackTimer.mode = .off)
    ∧ (trackOnce.Calm ∧ trackOnce.trackTimer.mode ≠ .off ∧ trackOnce.tracking.enabled = false)
    ∧ ((tracked searching).Calm ∧ (tracked searching).trackTimer.mode ≠ .off ∧ (tracked searching).tracking.enabled = true
      ∧ (tracked searching).search.state ≠ .idle)
    ∧ (siteless.Calm ∧ siteless.trackTimer.mode ≠ .off ∧ siteless.tracking.enabled = true ∧ siteless.search.state = .idle
      ∧ siteless.tracking.site = some 1 ∧ siteless.site? 1 = none)
    ∧ ((tracked owned).Calm ∧ (tracked owned).trackTimer.mode ≠ .off ∧ (tracked owned).tracking.enabled = true
      ∧ (tracked owned).search.state = .idle ∧ ((tracked owned).site? 1).isSome = true ∧ (tracked owned).pos.owner = .sequence
      ∧ (tracked owned).seq.state ≠ .deployed)
    ∧ ((tracked (panned {})).Calm ∧ (tracked (panned {})).trackTimer.mode ≠ .off ∧ (tracked (panned {})).tracking.enabled = true
      ∧ (tracked (panned {})).search.state = .idle ∧ (tracked (panned {})).pos.owner = .console
      ∧ (tracked (panned {})).pos.pan.referenced = false)
    ∧ ((tracked low).Calm ∧ (tracked low).trackTimer.mode ≠ .off ∧ (tracked low).tracking.enabled = true ∧ (tracked low).search.state = .idle
      ∧ (tracked low).pos.owner = .console ∧ (tracked low).pos.pan.referenced = true ∧ (tracked low).pos.pan.motion = .rest
      ∧ (tracked low).mastReady = false)
    ∧ ((tracked up).Calm ∧ (tracked up).trackTimer.mode ≠ .off ∧ (tracked up).tracking.enabled = true ∧ (tracked up).search.state = .idle
      ∧ (tracked up).tracking.site = some 1 ∧ ((tracked up).site? 1).isSome = true ∧ (tracked up).pos.owner = .console
      ∧ (tracked up).mast.state = .rest ∧ (tracked up).mastReady = true
      ∧ (rawSolution ((tracked up).solveInputs 1 (tracked up).extension)).isOk = true) :=
  ⟨by decide, by decide, by decide, by decide, by decide, by decide, by decide, by decide +kernel⟩

/-- The hypotheses of TxRequestFormsTheGate are met. -/
theorem witness_tx_request_forms_the_gate :
    (up.takesNow ∧ up.Calm ∧ up.seq.state ≠ .deployTx)
    ∧ (permitted.takesNow ∧ permitted.gate.request = true ∧ permitted.gate.state ≠ .off ∧ up.Calm)
    ∧ (up.takesNow ∧ up.gate.request = false)
    ∧ (up.takesNow ∧ 1 < (2 : Byte).toNat) :=
  ⟨by decide, by decide, by decide, by decide⟩

/-- The hypotheses of DeployTakesThePlantAndEntersItsFirstStage are met. -/
theorem witness_deploy_takes_the_plant_and_enters_its_first_stage :
    (nested.takesNow ∧ nested.Calm ∧ nested.seq.state = .idle ∧ nested.pos.owner = .console ∧ nested.mast.owner = .console
      ∧ nested.work.mast.clearance ≤ 15000 ∧ (nested.fix.map (fun f => f.headingPresent)) = some true ∧ (nested.site? 1).isSome = true
      ∧ nested.mast.state = .nested ∧ nested.mast.referenced = true ∧ nested.pos.pan.motion = .rest ∧ nested.pos.tilt.motion = .rest
      ∧ nested.pos.pol.motion = .rest ∧ nested.mast.counter = 0 ∧ nested.work.mast.tolerance < 15000)
    ∧ (nested.mast.counter < (15000 - nested.work.mast.stopLead) / 2 ∧ up.takesNow ∧ up.Calm ∧ up.mast.state = .rest ∧ up.raiseLimit = 15000
      ∧ up.mast.referenced = true ∧ 10040 ≤ 2 * up.mast.counter + up.work.mast.tolerance
      ∧ 9959 + up.work.mast.tolerance < 2 * up.mast.counter ∧ (9000 + up.work.mast.stopLead) / 2 < up.mast.counter
      ∧ 9000 + up.work.mast.tolerance < 2 * up.mast.counter)
    ∧ ((nested.setAxis .tilt {}).takesNow ∧ (nested.setAxis .tilt {}).Calm ∧ (nested.setAxis .tilt {}).seq.state = .idle
      ∧ (nested.setAxis .tilt {}).pos.owner = .console ∧ (nested.setAxis .tilt {}).mast.owner = .console
      ∧ (nested.setAxis .tilt {}).pos.tilt.referenced = false ∧ (nested.setAxis .tilt {}).pos.tilt.motion = .unref
      ∧ (nested.setAxis .tilt {}).pos.pan.referenced = true)
    ∧ (nested.takesNow ∧ nested.Calm ∧ nested.seq.state = .idle ∧ nested.pos.owner = .console ∧ nested.mast.owner = .console
      ∧ 15 < (16 : Byte).toNat ∧ 1799 < nested.work.mast.clearance)
    ∧ (nestedUnfixed.takesNow ∧ nestedUnfixed.Calm ∧ nestedUnfixed.seq.state = .idle ∧ nestedUnfixed.pos.owner = .console
      ∧ nestedUnfixed.mast.owner = .console ∧ nestedUnfixed.fix = none)
    ∧ (nested.takesNow ∧ nested.Calm ∧ nested.seq.state = .idle ∧ nested.pos.owner = .console ∧ nested.mast.owner = .console
      ∧ nested.site? 15 = none) :=
  ⟨by decide, by decide, by decide, by decide, by decide, by decide⟩

/-- The hypotheses of SequenceStagesFollowOneAnother are met. -/
theorem witness_sequence_stages_follow_one_another :
    (deployRaising.Calm ∧ deployRaising.seq.deploy = some deployOne ∧ deployRaising.seq.state = .deployRaise
      ∧ deployRaising.seq.issued = false ∧ deployRaising.mast.owner = .sequence ∧ deployRaising.mast.state = .nested
      ∧ deployRaising.mast.referenced = true
      ∧ deployRaising.extension + deployRaising.work.mast.tolerance < min deployOne.height deployRaising.raiseLimit
      ∧ deployRaising.mast.counter < (min deployOne.height deployRaising.raiseLimit - deployRaising.work.mast.stopLead) / 2)
    ∧ (deploySearching.Calm ∧ deploySearching.seq.deploy = some deployOne ∧ deploySearching.seq.state = .deploySearch
      ∧ deploySearching.seq.issued = false ∧ deploySearching.pos.owner = .sequence ∧ deploySearching.mast.state = .rest
      ∧ deploySearching.dishAtRest = true ∧ deploySearching.mastReady = true
      ∧ (rawSolution (deploySearching.solveInputs deployOne.site deploySearching.extension)).isOk = true)
    ∧ (deployWaitingOff.Calm ∧ deployWaiting.gate.request = true ∧ deployWaiting.seq.deploy = some deployOne
      ∧ deployWaiting.seq.state = .deployTx ∧ deployWaiting.seq.txWait = some 0 ∧ deployWaiting.pos.owner = .sequence
      ∧ deployWaiting.mast.owner = .sequence ∧ deployWaiting.mast.state = .rest)
    ∧ (up.Calm ∧ up.seq.state ≠ .deployRaise ∧ up.seq.state ≠ .deploySearch ∧ up.seq.state ≠ .deployTx)
    ∧ (raised.Calm ∧ raised.seq.deploy = some deployOne ∧ raised.seq.state = .deployRaise ∧ raised.seq.issued = true ∧ raised.mast.state = .settling
      ∧ raised.mast.settleKind = .afterMove ∧ raised.mast.origin = .sequence ∧ raised.mast.owner = .sequence ∧ raised.pos.owner = .sequence
      ∧ raised.lines.nest.level = false ∧ raised.extension = raised.mast.target ∧ raised.mastReady = true
      ∧ allAxes.all (fun a => (raised.axis a).referenced) = true ∧ deployOne.site ≤ 15
      ∧ (solve (raised.solveInputs 1 raised.extension)).status = .valid
      ∧ (solve (raised.solveInputs 1 raised.extension)).hasPreferred = true)
    ∧ ((aiming deployOne).Calm ∧ (aiming deployOne).seq.state = .deployAim ∧ (aiming deployOne).pos.owner = .sequence
      ∧ allAxes.all (fun b => (aiming deployOne).seq.awaits.has b == decide (b = .pan)) = true
      ∧ (aiming deployOne).pos.pan.motion = .settling ∧ (aiming deployOne).pos.pan.origin = .sequence
      ∧ (aiming deployOne).pos.pan.ending = .arrived ∧ (aiming deployOne).pos.tilt.motion = .rest ∧ (aiming deployOne).pos.pol.motion = .rest
      ∧ (aiming deployOne).mast.state = .rest ∧ (aiming deployOne).mastReady = true ∧ ((aiming deployOne).site? 1).isSome = true
      ∧ (rawSolution ((aiming deployOne).solveInputs 1 (aiming deployOne).extension)).isOk = true)
    ∧ ((aiming { deployOne with search := false }).Calm ∧ (aiming { deployOne with search := false, tx := false }).Calm)
    ∧ (deployWaiting.gate = { request := true, state := .wait } ∧ ({ tiltLifts with gate := {} } : State).Calm
      ∧ tiltLifts.lines.tiltStow.raw = false ∧ tiltLifts.lines.tiltStow.level = true ∧ tiltLifts.pos.tilt.motion = .rest
      ∧ ({ tiltLifts with lines := { tiltLifts.lines with tiltStow := {} } } : State).reasons.isEmpty = true)
    ∧ ((lastAxis up { state := .stowPositioner }).Calm ∧ (lastAxis up { state := .stowPositioner }).mast.state = .rest
      ∧ stowWindow.Calm ∧ stowWindow.windowClosed = true ∧ stowWindow.lines.nest.level = false ∧ stowWindow.mast.state = .rest)
    ∧ ((lastAxis nested { state := .stowPositioner }).Calm ∧ (lastAxis nested { state := .stowPositioner }).mast.state = .nested)
    ∧ (nestingSequence.Calm ∧ nestingSequence.seq.state = .stowMast ∧ nestingSequence.mast.state = .lowering ∧ nestingSequence.mast.target = 0
      ∧ nestingSequence.mast.origin = .sequence ∧ nestingSequence.mast.owner = .sequence ∧ nestingSequence.pos.owner = .sequence
      ∧ nestingSequence.lines.nest.raw = true ∧ nestingSequence.lines.nest.level = false) :=
  ⟨by decide, by decide +kernel, by decide, by decide, by decide +kernel, by decide +kernel, by decide, by decide, by decide, by decide,
   by decide⟩

/-- The hypotheses of StowAllAndHaltTakeThePlant are met. -/
theorem witness_stow_all_and_halt_take_the_plant :
    (up.takesNow ∧ up.Calm ∧ up.seq.state = .idle ∧ up.search.state = .idle ∧ up.pos.owner = .console ∧ up.mast.owner = .console
      ∧ up.pos.pan.referenced = true ∧ up.pos.tilt.referenced = true ∧ up.pos.pol.referenced = true ∧ up.pos.pan.motion = .rest
      ∧ up.pos.tilt.motion = .rest ∧ up.pos.pol.motion = .rest ∧ up.work.map.firstBlocked up.pos.pan.position 0 = none)
    ∧ (stowing.takesNow ∧ stowing.positionerInForce = false ∧ stowing.mastInForce stowing.mast.situation = false
      ∧ stowing.seq.state = .stowMast)
    ∧ (permitted.takesNow ∧ permitted.gate.request = true ∧ ({ permitted with gate := {} } : State).Calm)
    ∧ (heldOnAir.takesNow ∧ heldOnAir.action.positioner = .hold ∧ heldOnAir.pos.enacted = .hold ∧ (heldOnAir.axis .pan).motion = .held) :=
  ⟨by decide, by decide, by decide, by decide⟩

/-- The hypotheses of NoticeRequestsChangeTheNoticesAlone are met. -/
theorem witness_notice_requests_change_the_notices_alone :
    (up.takesNow ∧ up.notices.hush = false)
    ∧ (hushed.takesNow ∧ hushed.notices.hush = true ∧ 255 < (256 : Half).toNat)
    ∧ (hushed.takesNow ∧ hushed.notices.hush = true) :=
  ⟨by decide, by decide, by decide⟩

/-- The hypotheses of IntervalTimersAreSetReadAndExpire are met. -/
theorem witness_interval_timers_are_set_read_and_expire :
    (up.takesNow ∧ up.report.mode = .off)
    ∧ (reportOnce.takesNow ∧ reportOnce.report.mode = .oneShot)
    ∧ (reportAlways.takesNow ∧ reportAlways.report.mode = .repeating ∧ 2 < (3 : Byte).toNat) :=
  ⟨by decide, by decide, by decide⟩

/-! ## The hypotheses of the clauses on refusals, full records, switches and takings -/

/-- A CEILING_SET that brings a lowering's target down to 6600 mm forms its stop count from it: (6600 + 60) / 2 (R87, R88). -/
theorem test_ceiling_forms_a_lowering_stop_count_anew :
    (match exec (.ceilingSet 1 10000) (loweringTo 9000) with | .next t => (t.mast.target, t.mast.stopCount) | _ => (0, 0)) = (6600, 3330) := by
  decide +kernel

/-- A pan 3 cdeg beyond its travel end is refused RANGE toward it, and jogs back from it (R72; log entry 41). -/
theorem test_jog_beyond_the_travel_end :
    (match exec (.jog 1 0 0 0) (panned { parked with position := 20003 }) with | .next t => t.pos.pan.motion | _ => .held) = .rest
      ∧ (match exec (.jog 1 0 1 0) (panned { parked with position := 20003 }) with | .next t => t.pos.pan.motion | _ => .held) = .jogging := by
  decide +kernel

/-- TransmitterTakesRepliesThenNotices: a frame waits behind the reply. -/
theorem witness_transmitter_takes_a_queued_frame :
    waitingNext.link.sending = some onePart ∧ onePart.rest = [] ∧ onePart.restarts = false
      ∧ waitingNext.link.waiting = some (answer, .nothing) ∧ waitingNext.link.replies = [answer, answer, answer, answer]
      ∧ answer.parts = [[0]] ∧ waitingNext.link.queue = [⟨0x01, 5, []⟩] ∧ waitingNext.link.restarting = false
      ∧ (Instr.ident 5).wellFormed = true ∧ encodeFrame (.ident 5) = some ⟨0x01, 5, []⟩ := by decide

/-- SolveWritesTheSolutionAlone and SolutionsFollowTheStages: the refused computations, at the boundaries of latitude and distance. -/
theorem witness_solutions_refused :
    (unfixed.takesNow ∧ unfixed.fix = none ∧ (unfixed.solveInputs 1 10000).fix = none)
    ∧ (headless.takesNow ∧ (headless.fix.map (fun f => f.headingPresent)) = some false)
    ∧ (tableless.takesNow ∧ (tableless.fix.map (fun f => f.headingPresent)) = some true ∧ tableless.site? 1 = none
      ∧ (tableless.solveInputs 1 10000).site = none)
    ∧ (polar.takesNow ∧ (polar.fix.map (fun f => f.headingPresent)) = some true ∧ 800000000 < (800000001 : Int).natAbs
      ∧ polar.site? 1 = some siteOne ∧ siteOne.lat.natAbs ≤ 800000000)
    ∧ ((atSite.fix.map (fun f => f.lat - siteOne.lat)) = some 0 ∧ (2 * (10000000 * (0 : Int) - 0)).natAbs ≤ 10000000
      ∧ 4 * ((0 : Int) ^ 2 + 0 ^ 2) < (2 * ((0 : Nat) : Int) + 1) ^ 2
      ∧ (solve (atSite.solveInputs 1 10000)).detail = some .tooNear ∧ (solve (atSite.solveInputs 1 10000)).distance = 0)
    ∧ ((solve (farOff.solveInputs 1 10000)).detail = some .tooFar ∧ 150000 < (solve (farOff.solveInputs 1 10000)).distance) :=
  ⟨by decide, by decide, by decide, by decide, by decide +kernel, by decide +kernel⟩

/-- SolutionsFollowTheStages: two candidates, and none of them admissible. -/
theorem witness_solutions_with_two_candidates :
    (solve { up.solveInputs 1 10000 with map := { up.work.map with stowAzimuth := 24500 } }).candidates.length = 2
      ∧ (solve ((walled up).solveInputs 1 10000)).status = .valid
      ∧ (solve ((walled up).solveInputs 1 10000)).candidates.all (fun c => !c.admissible) = true := by decide +kernel

/-- AimMovesAllThreeAxesOrNone: an unreferenced tilt, an unreferenced pol, and a full violation record. -/
theorem witness_aim_refusals :
    ((tilted {}).takesNow ∧ (tilted {}).Calm ∧ (solve ((tilted {}).solveInputs 1 10000)).status = .valid
      ∧ (tilted {}).pos.pan.referenced = true ∧ (tilted {}).mastReady = true
      ∧ (solve ((tilted {}).solveInputs 1 10000)).hasPreferred = true ∧ (tilted {}).pos.tilt.referenced = false)
    ∧ ((up.setAxis .pol {}).takesNow ∧ (up.setAxis .pol {}).Calm ∧ (up.setAxis .pol {}).pos.pol.referenced = false)
    ∧ ((full (walled up)).takesNow ∧ (full (walled up)).Calm ∧ (full (walled up)).violation.isSome = true
      ∧ (solve ((full (walled up)).solveInputs 1 10000)).hasPreferred = false) :=
  ⟨by decide +kernel, by decide, by decide +kernel⟩

/-- TripsTakeAndGiveBackThePlant: a stow by the switches, a raise that is lowered, and a hold that gives way to a stow. -/
theorem witness_trips_stow_by_switch_lower_a_raise_and_give_way :
    (Gusting stowBySwitch ∧ stowBySwitch.mast.state = .nested ∧ stowBySwitch.pos.pol.motion ≠ .held
      ∧ stowBySwitch.pos.pan.referenced = false ∧ stowBySwitch.pos.tilt.referenced = false)
    ∧ (Gusting raiseLowered ∧ raiseLowered.mast.state = .raising ∧ raiseLowered.trips.wind.config.action.raising = .lower
      ∧ raiseLowered.trips.wind.config.action.positioner = .noAction ∧ raiseLowered.lines.nest.level = false)
    ∧ ((holdGivesWay.trips.source .wind).state = .releasing ∧ (holdGivesWay.trips.source .wind).config.mode = .selfClearing
      ∧ (holdGivesWay.setSource .wind { holdGivesWay.trips.wind with state := .clear, timer := 0, timerMs := 0, axes := {} }).action.positioner
        = .stow
      ∧ holdGivesWay.gate.request = false ∧ holdGivesWay.mast.state = .nested ∧ holdGivesWay.pos.owner = .trip
      ∧ holdGivesWay.pos.enacted = .hold ∧ allAxes.all (fun a => (holdGivesWay.axis a).motion == .held) = true
      ∧ holdGivesWay.pos.pan.referenced = true ∧ holdGivesWay.pos.tilt.referenced = true
      ∧ holdGivesWay.work.map.firstBlocked holdGivesWay.pos.pan.position 0 = none) :=
  ⟨by decide, by decide, by decide⟩

/-- CeilingSetBringsTheTargetDown: a lowering whose target the new limit leaves, and one whose target it brings down. -/
theorem witness_ceiling_set_under_a_lowering :
    (lowering.takesNow ∧ lowering.Calm ∧ lowering.mast.state = .lowering ∧ limitUnder 10000 ≠ lowering.raiseLimit
      ∧ lowering.mast.target ≤ limitUnder 10000)
    ∧ ((loweringTo 9000).takesNow ∧ (loweringTo 9000).Calm ∧ (loweringTo 9000).mast.state = .lowering
      ∧ limitUnder 10000 < (loweringTo 9000).mast.target ∧ 0 < limitUnder 10000
      ∧ (limitUnder 10000 + (loweringTo 9000).mast.leadInUse) / 2 < (loweringTo 9000).mast.counter
      ∧ (loweringTo 9000).mast.referenced = true ∧ (loweringTo 9000).work.mast.clearance ≤ limitUnder 10000) :=
  ⟨by decide, by decide⟩

/-- AxisTargetActsByTheUpdateMoment: an unknown axis, a full record, and the transfers that are refused at AT_REST. -/
theorem witness_axis_target_refusals :
    (up.takesNow ∧ 2 < (3 : Byte).toNat)
    ∧ ((full (walled up)).takesNow ∧ (full (walled up)).positionerInForce = false ∧ (full (walled up)).pos.owner = .console
      ∧ (full (walled up)).violation.isSome = true ∧ (full (walled up)).work.map.firstBlocked 0 20000 = some 37)
    ∧ (({ momented .atRest with mast := low.mast } : State).Calm ∧ ({ momented .atRest with mast := low.mast } : State).mastReady = false
      ∧ ({ momented .atRest with mast := low.mast } : State).pos.pan.motion = .rest)
    ∧ ((walled (momented .atRest)).takesNow ∧ (walled (momented .atRest)).Calm ∧ (walled (momented .atRest)).mastReady = true
      ∧ (walled (momented .atRest)).violation = none ∧ (walled (momented .atRest)).work.map.firstBlocked 0 20000 = some 37)
    ∧ ((full (walled (momented .atRest))).Calm ∧ (full (walled (momented .atRest))).violation.isSome = true) :=
  ⟨by decide, by decide +kernel, by decide, by decide +kernel, by decide⟩

/-- MomentsAndSyncTransferTheSlots: unknown codes, the refused transfers of AXIS_MOMENT and of SYNC, for the tilt too, and a full record. -/
theorem witness_moments_and_sync_refusals :
    (up.takesNow ∧ 2 < (3 : Byte).toNat ∧ 3 < (4 : Byte).toNat)
    ∧ (((panned { slot := some 5 }).takesNow ∧ (panned { slot := some 5 }).Calm ∧ (panned { slot := some 5 }).pos.pan.slot = some 5
      ∧ (panned { slot := some 5 }).pos.pan.referenced = false))
    ∧ ((walledSlot .held).takesNow ∧ (walledSlot .held).Calm ∧ (walledSlot .held).pos.owner = .console
      ∧ (walledSlot .held).violation = none ∧ (walledSlot .held).work.map.firstBlocked 0 20000 = some 37)
    ∧ ((full (walledSlot .held)).Calm ∧ (full (walledSlot .held)).violation.isSome = true)
    ∧ (tiltOnSync.takesNow ∧ tiltOnSync.Calm ∧ tiltOnSync.pos.owner = .console ∧ tiltOnSync.pos.tilt.slot = some 5
      ∧ (tiltOnSync.axisSettings .tilt).moment = .onSync ∧ (tiltOnSync.axisSettings .pan).moment = .immediate
      ∧ tiltOnSync.pos.tilt.referenced = false)
    ∧ ((full (walledSlot .onSync)).takesNow ∧ (full (walledSlot .onSync)).Calm ∧ (full (walledSlot .onSync)).violation.isSome = true
      ∧ (full (walledSlot .onSync)).work.map.firstBlocked 0 20000 = some 37) :=
  ⟨by decide, by decide, by decide +kernel, by decide, by decide, by decide +kernel⟩

/-- JogRunsTowardItsEndPoint: unknown codes, the travel end and beyond it, and a full record. -/
theorem witness_jog_refusals :
    (up.takesNow ∧ 2 < (3 : Byte).toNat ∧ 1 < (2 : Byte).toNat)
    ∧ ((panned { parked with position := 20000 }).takesNow ∧ (panned { parked with position := 20000 }).Calm
      ∧ (panned { parked with position := 20000 }).mastReady = true)
    ∧ ((panned { parked with position := 20003 }).takesNow ∧ (panned { parked with position := 20003 }).Calm)
    ∧ ((full ((walled up).setAxis .pan { parked with position := 499 })).takesNow
      ∧ (full ((walled up).setAxis .pan { parked with position := 499 })).Calm
      ∧ (full ((walled up).setAxis .pan { parked with position := 499 })).violation.isSome = true
      ∧ (full ((walled up).setAxis .pan { parked with position := 499 })).work.map.jogEnd 499 true = (499, some 37)) :=
  ⟨by decide, by decide, by decide, by decide +kernel⟩

/-- HomeBeginsByTheSwitches and StowMovesPanAndTilt: the legs that the switches drive. -/
theorem witness_homing_legs :
    (up.takesNow ∧ 2 < (3 : Byte).toNat)
    ∧ ([(HomePhase.approach, true), (.approach, false), (.seek, true), (.seek, false), (.reversed, true), (.reversed, false), (.stowing, true),
        (.stowing, false)].all (fun c =>
          let u : State := { panLeg c.1 c.2 with lines := { up.lines with panStow := { raw := c.2, level := c.2 } } }
          let v : State := { tiltLeg c.1 c.2 with lines := { up.lines with tiltStow := { raw := c.2, level := c.2 } } }
          decide (u.Calm ∧ v.Calm ∧ (panLeg c.1 c.2).pos.pan.motion = .homing
            ∧ (panLeg c.1 c.2).lines.panStow.raw ≠ (panLeg c.1 c.2).lines.panStow.level
            ∧ (panLeg c.1 c.2).pos.pan.homing = some { begunReferenced := false, phase := c.1 }
            ∧ (tiltLeg c.1 c.2).pos.tilt.driveUp = true
            ∧ (tiltLeg c.1 c.2).lines.tiltStow.raw ≠ (tiltLeg c.1 c.2).lines.tiltStow.level)) = true)
    ∧ ([(HomePhase.outward, true), (.outward, false), (.seek, false)].all (fun c =>
        decide ((polLeg c.1 c.2).Calm ∧ (polLeg c.1 c.2).lines.polIndex.raw ≠ (polLeg c.1 c.2).lines.polIndex.level
          ∧ (polLeg c.1 c.2).pos.pol.motion = .homing ∧ (polLeg c.1 c.2).lines.polIndex.captured = some (3, true))) = true) :=
  ⟨by decide, by decide, by decide⟩

/-- EncoderCountsAndSettlesMoveTheAxis: a slot at AT_REST when the settle ends, transferred and refused. -/
theorem witness_settle_ends_with_a_slot :
    ((settlingSlot up).Calm ∧ (settlingSlot up).pos.pan.origin = .console ∧ ((settlingSlot up).axisSettings .pan).moment = .atRest
      ∧ (settlingSlot up).pos.pan.slot = some 20000 ∧ (settlingSlot up).mastReady = true
      ∧ (settlingSlot up).work.map.firstBlocked 0 20000 = none)
    ∧ ((settlingSlot low).Calm ∧ (settlingSlot low).mastReady = false)
    ∧ ((settlingSlot (walled up)).Calm ∧ (settlingSlot (walled up)).violation = none
      ∧ (settlingSlot (walled up)).work.map.firstBlocked 0 20000 = some 37)
    ∧ ((full (settlingSlot (walled up))).Calm ∧ (full (settlingSlot (walled up))).violation.isSome = true) :=
  ⟨by decide +kernel, by decide, by decide +kernel, by decide⟩

/-- EncoderCountsAndSettlesMoveTheAxis: a FAST jog at its end point, jogs short of their end points in both directions and one without, and
a homing. -/
theorem witness_jogs_and_homings_count :
    (jogsTo true true (some 1)).Calm
    ∧ ((jogsTo true true (some 2)).Calm ∧ (1 : Int) < 2 ∧ (jogsTo false false (some (-2))).Calm ∧ (-2 : Int) < -1)
    ∧ ((jogsTo true true none).Calm ∧ (jogsTo true true none).pos.pan.motion = .jogging)
    ∧ (homing.Calm ∧ homing.pos.pan.motion = .homing) :=
  ⟨by decide, by decide, by decide, by decide⟩

/-- MastCountsEndPauseAndTopUp: every motion at its end and one count short of it, a nudge down at the pause point, a mast at the raise limit
that has sagged, and one that has the stop count of its top-up already. -/
theorem witness_mast_motions_end :
    ((lowersTo 4999 4999).Calm ∧ (lowersTo 4999 4998).Calm ∧ (lowersTo 0 30).Calm ∧ up.work.mast.clearance ≤ 4999)
    ∧ ((nudges true 10002).Calm ∧ (10002 : Nat) / 2 ≤ 5001 ∧ (nudges true 10004).Calm ∧ 2 * 5001 < up.raiseLimit)
    ∧ ((nudges false 9998).Calm ∧ 4999 ≤ (9998 : Nat) / 2 ∧ (nudges false 9996).Calm ∧ up.work.mast.clearance ≤ 9996)
    ∧ ((masted { (nudges false 1700).mast with counter := 931 }).Calm ∧ (1700 : Nat) / 2 < 930
      ∧ 930 ≤ (up.work.mast.clearance + 60 + 1) / 2 ∧ up.windowClosed = false)
    ∧ ((toppingTo 5001).Calm ∧ (toppingTo 5002).Calm ∧ 2 * 5001 < up.raiseLimit)
    ∧ (up.raiseLimit ≤ 2 * 7500 ∧ (masted { up.mast with counter := 7501, target := 15200 }).Calm)
    ∧ ((masted { up.mast with counter := 4950, target := 10000 }).Calm ∧ 2 * 4949 + 100 < 10000
      ∧ (masted { (low).mast with state := .clearWait, target := 0 }).Calm)
    ∧ ((masted { up.mast with target := 10003 }).Calm ∧ up.work.mast.sagAllowance = 100) :=
  ⟨by decide, by decide, by decide, by decide, by decide, by decide, by decide, by decide⟩

/-- MastToSetsOutForTheHeight and MastLowersAndStops: the entries that bar them, a search that owns the positioner, a trip's lowering, a
raise and a lowering that settle at once, and a mast that tops up. -/
theorem witness_mast_requests_are_refused :
    ((auxGives up lowersAlone).takesNow ∧ (auxGives up lowersAlone).mast.state = .rest ∧ (auxGives up lowersAlone).action.rest = .lower)
    ∧ ((auxGives up stopsMast).takesNow ∧ (auxGives up stopsMast).action.raising = some .stop
      ∧ (auxGives up stopsMast).action.lowering = some .stop ∧ (auxGives up stopsMast).action.rest = .noAction)
    ∧ ((auxGives lowering stopsMast).takesNow ∧ (auxGives lowering stopsMast).mast.state = .lowering
      ∧ (auxGives lowering stopsMast).action.lowering = some .stop)
    ∧ (searching.takesNow ∧ searching.action = {} ∧ searching.mast.owner = .console ∧ searching.pos.owner = .search)
    ∧ ((auxGives (masted { lowering.mast with owner := .trip }) lowersAlone).takesNow
      ∧ (auxGives (masted { lowering.mast with owner := .trip }) lowersAlone).action.lowering = some .goOn
      ∧ (auxGives (masted { lowering.mast with owner := .trip }) lowersAlone).mast.owner ≠ .console)
    ∧ (up.takesNow ∧ up.Calm ∧ 2 * up.mast.counter + up.work.mast.tolerance < 10041 ∧ (10041 - up.work.mast.stopLead) / 2 ≤ up.mast.counter)
    ∧ (up.Calm ∧ 9950 + up.work.mast.tolerance < 2 * up.mast.counter ∧ up.mast.counter ≤ (9950 + up.work.mast.stopLead) / 2)
    ∧ ((masted { up.mast with state := .topping, stopCount := 5100 }).takesNow ∧ (masted { up.mast with state := .topping, stopCount := 5100 }).Calm) :=
  ⟨by decide, by decide, by decide, by decide, by decide, by decide, by decide, by decide⟩

/-- LinesChangeAfterTheirDebounceTime: the stow window that closes and opens under a lowering. -/
theorem witness_stow_window_changes :
    ((windowed true waiting.mast).Calm ∧ (windowed true waiting.mast).mast.state = .clearWait
      ∧ ({ windowed true waiting.mast with
          lines := (windowed true waiting.mast).lines.setLine .panStow { raw := true, level := true } } : State).windowClosed = true
      ∧ (windowed true waiting.mast).mast.waitsForNudge = false)
    ∧ ((windowed true { waiting.mast with target := 0 }).Calm ∧ (windowed true { waiting.mast with target := 0 }).lines.nest.level = false)
    ∧ (0 < waiting.mast.target ∧ waiting.mast.counter ≤ (waiting.mast.target + up.work.mast.stopLead) / 2)
    ∧ ((windowed true { waiting.mast with target := 1700, waitsForNudge := true }).Calm ∧ 1700 / 2 < waiting.mast.counter)
    ∧ ((windowed false { lowering.mast with counter := 930 }).Calm
      ∧ (windowed false { lowering.mast with counter := 930 }).mast.state = .lowering
      ∧ ({ windowed false { lowering.mast with counter := 930 } with
          lines := (windowed false { lowering.mast with counter := 930 }).lines.setLine .panStow {} } : State).windowClosed = false
      ∧ 930 ≤ (up.work.mast.clearance + lowering.mast.leadInUse + 1) / 2 ∧ lowering.mast.target < up.work.mast.clearance) :=
  ⟨by decide, by decide, by decide, by decide, by decide⟩

/-- TripConfigReplacesOrStages: a source enabled while its cause stands, one disabled while it stands, and one disabled twice. -/
theorem witness_trip_config_enables_and_disables :
    (auxCaused.takesNow ∧ auxCaused.Calm ∧ auxCaused.lock = false ∧ sourceOf 9 = some .aux ∧ auxCaused.trips.aux.state = .clear
      ∧ auxCaused.trips.aux.config.enabled = false ∧ auxCaused.trips.aux.cause = true ∧ auxCaused.mast.state = .nested)
    ∧ ((windStands .latched).takesNow ∧ (windStands .latched).lock = false ∧ (windStands .latched).trips.wind.state ≠ .clear
      ∧ ({ windStands .latched with trips := { up.trips with
          wind := { (windStands .latched).trips.wind with
            state := .clear, config := { (windStands .latched).trips.wind.config with enabled := false } } } } : State).Calm)
    ∧ (up.takesNow ∧ up.Calm ∧ up.trips.aux.state = .clear ∧ up.trips.aux.config.enabled = false ∧ (0 : Byte) ≠ 1) :=
  ⟨by decide, by decide, by decide⟩

/-- SearchBeginsAtTheCentre: a raw solution that is refused for want of a fix, and one too far away. -/
theorem witness_search_with_a_refused_raw_solution :
    (unfixed.takesNow ∧ unfixed.Calm ∧ unfixed.pos.owner = .console ∧ unfixed.pos.pan.referenced = true ∧ unfixed.pos.tilt.referenced = true
      ∧ unfixed.mastReady = true ∧ unfixed.site? 1 = some siteOne
      ∧ (match rawSolution (unfixed.solveInputs 1 unfixed.extension) with | .error .noFix => true | _ => false) = true)
    ∧ (farOff.takesNow ∧ farOff.Calm ∧ farOff.mastReady = true ∧ farOff.site? 1 = some siteOne
      ∧ (match rawSolution (farOff.solveInputs 1 farOff.extension) with | .error .geometry => true | _ => false) = true) :=
  ⟨by decide +kernel, by decide +kernel⟩

/-- SearchesMeasureJudgeAndEnd: the last probe of a round that finds a better centre, halves the step, and converges. -/
theorem witness_last_probe_of_a_round :
    (Completing (lastProbe 2009 100) ∧ (lastProbe 2009 100).search.state = .probing ∧ (lastProbe 2009 100).search.probeAt = 3
      ∧ (lastProbe 2009 100).search.probes.length = 4 ∧ 3 + 1 < (lastProbe 2009 100).search.profile.budget
      ∧ lastJudged 2009 100 = .centre 2009 { pan := 100, outcome := .level 2009 }
      ∧ ((200 : Int) - 0).natAbs ≤ factoryAcquire.radius ∧ (lastProbe 2009 100).work.map.firstBlocked 0 200 = none
      ∧ (lastProbe 2009 100).pos.pan.target ≠ 200)
    ∧ (Completing (lastProbe 2008 100) ∧ lastJudged 2008 100 = .halve 50 ∧ (lastProbe 2008 100).work.map.firstBlocked 0 50 = none
      ∧ (lastProbe 2008 100).pos.pan.target ≠ 50)
    ∧ (Completing (lastProbe 2008 factoryAcquire.minStep) ∧ lastJudged 2008 factoryAcquire.minStep = .converged
      ∧ (lastProbe 2008 factoryAcquire.minStep).pos.tilt.target ≠ 0
      ∧ (lastProbe 2008 factoryAcquire.minStep).work.map.firstBlocked 0 0 = none) :=
  ⟨by decide +kernel, by decide +kernel, by decide +kernel⟩

/-- TxRequestFormsTheGate: a pan on air that comes into a NO_TX sector, and into one SHADOW above the pivot, with an empty and a full record. -/
theorem witness_pan_enters_a_forbidden_sector :
    (({ onAir { attr := .noTx } with gate := {} } : State).Calm ∧ (onAir { attr := .noTx }).gate = { request := true, state := .on }
      ∧ (onAir { attr := .noTx }).pos.pan.referenced = true ∧ (onAir { attr := .noTx }).pos.pan.motion = .rest
      ∧ (onAir { attr := .noTx }).work.map.sectorAt 499 ≠ (onAir { attr := .noTx }).work.map.sectorAt 500
      ∧ ((onAir { attr := .noTx }).work.map.effective 37).attr = .noTx ∧ (onAir { attr := .noTx }).work.map.sectorAt 500 = 37
      ∧ (onAir { attr := .noTx }).violation = none)
    ∧ (((onAir { attr := .shadow, height := 20000 }).work.map.effective 37).attr = .shadow
      ∧ (onAir { attr := .shadow, height := 20000 }).pivotHeight < ((onAir { attr := .shadow, height := 20000 }).work.map.effective 37).height)
    ∧ (({ full (onAir { attr := .noTx }) with gate := {} } : State).Calm ∧ (full (onAir { attr := .noTx })).violation.isSome = true) :=
  ⟨by decide +kernel, by decide +kernel, by decide⟩

/-- DeployTakesThePlantAndEntersItsFirstStage: the refusals BUSY, TRIPPED and STATE, and a DEPLOY that follows a DEPLOY. -/
theorem witness_deploy_refusals :
    (deployRaising.takesNow ∧ deployRaising.seq.state = .deployRaise ∧ deployRaising.work.mast.clearance ≤ 15000)
    ∧ (stopped.takesNow ∧ stopped.positionerInForce = true)
    ∧ ((auxGives nested stopsMast).takesNow ∧ (auxGives nested stopsMast).positionerInForce = false
      ∧ (auxGives nested stopsMast).mastInForce (auxGives nested stopsMast).mast.situation = false
      ∧ (auxGives nested stopsMast).mastInForce .raising = true)
    ∧ (owned.takesNow ∧ owned.seq.state = .idle ∧ owned.positionerInForce = false ∧ owned.mastInForce owned.mast.situation = false
      ∧ owned.mastInForce .raising = false ∧ owned.pos.owner ≠ .console)
    ∧ (raising.takesNow ∧ raising.seq.state = .idle ∧ raising.pos.owner = .console ∧ raising.mast.owner = .console
      ∧ (raising.fix.map (fun f => f.headingPresent)) = some true ∧ (raising.site? 1).isSome = true ∧ raising.mast.state = .raising)
    ∧ (deployed.takesNow ∧ deployed.Calm ∧ deployed.seq.state = .deployed ∧ deployed.pos.owner = .sequence ∧ deployed.mast.owner = .sequence) :=
  ⟨by decide, by decide, by decide, by decide, by decide, by decide⟩

/-- SequenceStagesFollowOneAnother: trips that take the plant of a deployed van, and of a deploy's search. -/
theorem witness_trips_end_a_sequence :
    (({ windGives deployed holdsAll with gate := {} } : State).Calm ∧ (windGives deployed holdsAll).gate.state = (windGives deployed holdsAll).gateVerdict
      ∧ (windGives deployed holdsAll).sense.gust = 1 ∧ (windGives deployed holdsAll).work.sense.windLimit ≠ 0
      ∧ (windGives deployed holdsAll).trips.wind.state = .clear ∧ (windGives deployed holdsAll).trips.wind.config.enabled = true
      ∧ (windGives deployed holdsAll).search.state = .idle ∧ (windGives deployed holdsAll).pos.owner = .sequence)
    ∧ (({ windGives deployProbing lowersAlone with gate := {} } : State).Calm
      ∧ (windGives deployProbing lowersAlone).search.state ≠ .idle ∧ (windGives deployProbing lowersAlone).pos.owner = .search
      ∧ (windGives deployProbing lowersAlone).search.ownerBefore = some .sequence
      ∧ (windGives deployProbing lowersAlone).mast.state = .rest ∧ (windGives deployProbing lowersAlone).lines.nest.level = false
      ∧ (windGives deployProbing lowersAlone).mast.owner ≠ .trip)
    ∧ (({ windGives { deployed with gate := { request := true, state := .on } } lowersAlone with gate := {} } : State).Calm
      ∧ (windGives { deployed with gate := { request := true, state := .on } } lowersAlone).gateVerdict = .on) :=
  ⟨by decide, by decide, by decide⟩

/-- SequenceStagesFollowOneAnother: the last homing of DEPLOY_HOME, with the mast nested and with the mast on its way, and the end of a deploy's
search. -/
theorem witness_homings_and_searches_go_on :
    ((lastAxis nested { state := .deployHome, deploy := some deployOne }).Calm
      ∧ allAxes.all (fun b =>
        (lastAxis nested { state := .deployHome, deploy := some deployOne }).seq.awaits.has b == decide (b = .pan)) = true
      ∧ nested.mast.referenced = true ∧ nested.extension + nested.work.mast.tolerance < min deployOne.height nested.raiseLimit
      ∧ nested.mast.counter < (min deployOne.height nested.raiseLimit - nested.work.mast.stopLead) / 2)
    ∧ ((lastAxis raising { state := .deployHome, deploy := some deployOne }).Calm ∧ raising.mast.state = .raising)
    ∧ ((deployFinishing .budgetSpent).Calm ∧ (deployFinishing .budgetSpent).pos.pan.motion = .settling
      ∧ (deployFinishing .budgetSpent).pos.pan.origin = .search ∧ (deployFinishing .budgetSpent).pos.pan.ending = .arrived
      ∧ (deployFinishing .budgetSpent).pos.pan.settleTimer.isSome = true ∧ (deployFinishing .budgetSpent).pos.tilt.motion = .rest
      ∧ (deployFinishing .budgetSpent).pos.owner = .search ∧ (deployFinishing .budgetSpent).search.measuring = .moving
      ∧ (deployFinishing .budgetSpent).search.state = .finishing) :=
  ⟨by decide, by decide, by decide⟩

/-- SequenceStagesFollowOneAnother: an axis that ends STOPPED, a mast that ends HEIGHT_OFF and one that ends STOPPED, a search that ends
SATURATED, BEACON_ABSENT and ABORTED, and a request that the console withdraws. -/
theorem witness_ends_that_fail_a_deploy :
    ((lastStopped .deployHome).Calm ∧ (lastStopped .deployHome).pos.pan.ending = .stopped ∧ (lastStopped .deployHome).mast.owner = .sequence
      ∧ (lastStopped .stowPositioner).Calm)
    ∧ ((raisedTo 10041 .afterMove).Calm ∧ (raisedTo 10041 .afterMove).mast.nudges = 2 ∧ 10000 + up.work.mast.tolerance < 10041
      ∧ 10041 ≤ 10000 + up.work.mast.sagAllowance)
    ∧ ((raisedTo 10000 (.afterStop .stopped)).Calm ∧ (raisedTo 10000 (.afterStop .stopped)).mast.settleKind = .afterStop .stopped)
    ∧ ((deployMeasuring 4095).Calm ∧ (deployMeasuring 4095).sense.levelCeiling ≤ 4095 ∧ (deployMeasuring 4095).mast.owner = .sequence
      ∧ (deployMeasuring 4095).search.measuring = .sampling (List.replicate 15 4095)
      ∧ (deployMeasuring 4095).search.profile.samples ≤ 15 + 1 ∧ (deployMeasuring 4095).search.ownerBefore = some .sequence)
    ∧ ((lessFloor (deployMeasuring 999)).Calm ∧ (List.replicate 16 999).sum / 16 < (lessFloor (deployMeasuring 999)).sense.levelFloor)
    ∧ (deployProbing.takesNow ∧ deployProbing.Calm ∧ deployProbing.search.state ≠ .idle ∧ deployProbing.mast.owner = .sequence)
    ∧ (deployWaiting.takesNow ∧ ({ deployWaiting with gate := {} } : State).Calm ∧ deployWaiting.gate.state ≠ .off) :=
  ⟨by decide, by decide, by decide, by decide, by decide, by decide, by decide⟩

/-- StowAllAndHaltTakeThePlant: STOW_ALL refused TRIPPED by a hold and by an entry for the mast at rest, and BUSY by a trip's ownership. -/
theorem witness_stow_all_refusals :
    (stopped.takesNow ∧ stopped.positionerInForce = true)
    ∧ ((auxGives up lowersAlone).takesNow ∧ (auxGives up lowersAlone).mastInForce (auxGives up lowersAlone).mast.situation = true)
    ∧ (tripStowing.takesNow ∧ tripStowing.positionerInForce = false ∧ tripStowing.mastInForce tripStowing.mast.situation = false
      ∧ tripStowing.pos.owner = .trip)
    ∧ (tripNesting.takesNow ∧ tripNesting.positionerInForce = false ∧ tripNesting.mastInForce tripNesting.mast.situation = false
      ∧ tripNesting.mast.owner = .trip) :=
  ⟨by decide, by decide, by decide, by decide⟩

end Sys2Proof.Tests
end

section
/-! PROOFS. The Site Table (R1, R4, R5): what the placing of a record makes of the table, and the answers to SITE_STORE and
SITE_ERASE. -/

namespace Sys2Proof.Machine

open Sys2Proof

/-! ## A record in its place (R1) -/

/-- A placed record is the one found under its number, and every other number finds what it found before. -/
theorem find?_insertSite (r : Site) (m : Nat) (l : List Site) :
    (insertSite r l).find? (fun x => x.number == m) = if r.number = m then some r else l.find? (fun x => x.number == m) := by
  induction l with
  | nil => by_cases hr : r.number = m <;> simp [insertSite, hr]
  | cons x xs ih =>
    unfold insertSite
    split
    next => by_cases hr : r.number = m <;> simp [hr]
    next =>
      split
      next hx => by_cases hr : r.number = m <;> simp [← hx, hr]
      next hx =>
        -- the record goes further down, past an entry `x` of another number
        simp only [List.find?_cons, ih]
        by_cases hm : x.number = m
        · have hr : r.number ≠ m := fun hr => hx (hr.trans hm.symm)
          rw [if_neg hr, if_neg hr]
        · rw [beq_eq_false_iff_ne.mpr hm]

/-- The table after a placing holds the placed record and records that it held before. -/
theorem mem_insertSite {r y : Site} {l : List Site} (h : y ∈ insertSite r l) : y = r ∨ y ∈ l := by
  induction l with
  | nil => simpa [insertSite] using h
  | cons x xs ih =>
    unfold insertSite at h
    split at h
    next => simpa using h
    next =>
      split at h
      next => exact (List.mem_cons.mp h).imp_right (List.mem_cons_of_mem x)
      next =>
        rcases List.mem_cons.mp h with rfl | h
        · exact .inr List.mem_cons_self
        · exact (ih h).imp_right (List.mem_cons_of_mem x)

/-- A placing keeps the order of the numbers. -/
theorem pairwise_insertSite {r : Site} {l : List Site} (h : l.Pairwise (fun a b => a.number < b.number)) :
    (insertSite r l).Pairwise (fun a b => a.number < b.number) := by
  induction l with
  | nil => exact List.pairwise_singleton _ r
  | cons x xs ih =>
    obtain ⟨hx, hxs⟩ := List.pairwise_cons.mp h
    unfold insertSite
    split
    next hlt =>
      refine List.pairwise_cons.mpr ⟨fun y hy => ?_, h⟩
      rcases List.mem_cons.mp hy with rfl | hy
      · exact hlt
      · exact Nat.lt_trans hlt (hx y hy)
    next =>
      split
      next heq => exact List.pairwise_cons.mpr ⟨fun y hy => heq ▸ hx y hy, hxs⟩
      next =>
        refine List.pairwise_cons.mpr ⟨fun y hy => ?_, ih hxs⟩
        rcases mem_insertSite hy with rfl | hy
        · omega
        · exact hx y hy

/-- A placing of a record with a valid number keeps the table ordered. -/
theorem sitesOrdered_insertSite {r : Site} {l : List Site} (hr : r.number ≤ 15) (h : sitesOrdered l) :
    sitesOrdered (insertSite r l) := by
  refine ⟨pairwise_insertSite h.1, fun y hy => ?_⟩
  rcases mem_insertSite hy with rfl | hy
  · exact hr
  · exact h.2 y hy

/-! ## SITE_STORE (R4) -/

/-- The ranges that SITE_STORE checks (R1). -/
theorem siteInRange_iff (n : Byte) (lat lon alt : Quad) (q fl ce : Half) (name : List Byte) :
    siteInRange n lat lon alt q fl ce name = true ↔
      n.toNat ≤ 15 ∧ name.length ≤ 12 ∧ (∀ c ∈ name, 32 ≤ c.toNat ∧ c.toNat ≤ 126)
        ∧ -800000000 ≤ lat.toInt ∧ lat.toInt ≤ 800000000 ∧ -1800000000 ≤ lon.toInt ∧ lon.toInt ≤ 1799999999
        ∧ -5000 ≤ alt.toInt ∧ alt.toInt ≤ 90000 ∧ q.toNat ≤ 17999 ∧ fl.toNat ≤ 4094 ∧ 1 ≤ ce.toNat ∧ ce.toNat ≤ 4095
        ∧ fl.toNat < ce.toNat := by
  simp only [siteInRange, Bool.and_eq_true, decide_eq_true_eq, List.all_eq_true, and_assoc]

/-- A SITE_STORE in its ranges is answered OK and places its record. -/
theorem answered_siteStore {s : State} (hs : s.takesNow) (tag n : Byte) (lat lon alt : Quad) (q fl ce : Half) (name : List Byte)
    (h : siteInRange n lat lon alt q fl ce name = true) :
    Answered (.siteStore tag n lat lon alt q fl ce name) s 0x08 tag .ok []
      { s with sites := insertSite (storedSite n lat lon alt q fl ce name) s.sites } :=
  answered_of_request (a := answerSiteStore n lat lon alt q fl ce name) hs (if_pos h) rfl rfl rfl

/-- A SITE_STORE out of its ranges is refused RANGE. -/
theorem refused_siteStore {s : State} (hs : s.takesNow) (tag n : Byte) (lat lon alt : Quad) (q fl ce : Half) (name : List Byte)
    (h : ¬ siteInRange n lat lon alt q fl ce name = true) :
    Answered (.siteStore tag n lat lon alt q fl ce name) s 0x08 tag .range [] s :=
  answered_of_request (a := answerSiteStore n lat lon alt q fl ce name) hs (if_neg h) rfl rfl rfl

/-! ## SITE_ERASE (R5) -/

/-- What a SITE_ERASE is answered is what its reply says. -/
theorem answered_siteErase {s u : State} {st : Status} (hs : s.takesNow) (tag n : Byte)
    (h : answerSiteErase n s = { status := st, st := u }) (hu : u.link = s.link) :
    Answered (.siteErase tag n) s 0x09 tag st [] u :=
  answered_of_request hs h rfl rfl hu

/-- A SITE_ERASE of a present record removes it. -/
theorem answerSiteErase_present {s : State} {n : Byte} (hn : n.toNat ≤ 15) (h : (s.site? n.toNat).isSome = true) :
    answerSiteErase n s = accept { s with sites := s.sites.filter (fun r => decide (r.number ≠ n.toNat)) } := by
  unfold answerSiteErase
  rw [if_neg (by omega), if_neg (by simpa [Option.isSome_iff_ne_none] using h)]

/-- A SITE_ERASE of an absent record is refused NO_SITE. -/
theorem answerSiteErase_absent {s : State} {n : Byte} (hn : n.toNat ≤ 15) (h : s.site? n.toNat = none) :
    answerSiteErase n s = refuse .noSite s := by
  unfold answerSiteErase
  rw [if_neg (by omega), if_pos (by rw [h]; rfl)]

/-- A SITE_ERASE of a number above 15 is refused RANGE. -/
theorem answerSiteErase_range {s : State} {n : Byte} (hn : 15 < n.toNat) : answerSiteErase n s = refuse .range s := if_pos hn

/-- Settles O17: the record is placed by `insertSite`, whose effect on every look-up is `find?_insertSite`. -/
theorem sitesAreStoredAndErased : Obligations.SitesAreStoredAndErased := by
  unfold Obligations.SitesAreStoredAndErased
  intro s tag n lat lon alt q fl ce name hs fits
  have hfits : siteInRange n lat lon alt q fl ce name = true ↔ fits := siteInRange_iff n lat lon alt q fl ce name
  refine ⟨fun h => ?stored, fun h => refused_siteStore hs tag n lat lon alt q fl ce name (mt hfits.mp h),
    fun hn h => answered_siteErase hs tag n (answerSiteErase_present hn h) rfl,
    fun hn h => answered_siteErase hs tag n (answerSiteErase_absent hn h) rfl,
    fun hn => answered_siteErase hs tag n (answerSiteErase_range hn) rfl⟩
  case stored =>
    have hfind := fun m => find?_insertSite (storedSite n lat lon alt q fl ce name) m s.sites
    refine ⟨_, answered_siteStore hs tag n lat lon alt q fl ce name (hfits.mpr h), ?placed, fun m hm => ?others,
      sitesOrdered_insertSite h.1⟩
    case placed => exact (hfind n.toNat).trans (if_pos rfl)
    case others => exact (hfind m).trans (if_neg (Ne.symm hm))

end Sys2Proof.Machine
end

section
/-! PROOFS. SOLVE (R26): the records of the refused computations (R15), and the answer to the request. -/

namespace Sys2Proof.Machine

open Sys2Proof

/-! ## Refused computations (R15) -/

/-- A computation that stages 1 to 6 refuse ends with their record. -/
theorem solve_refused {i : SolveInputs} (h : (geometry i).status ≠ .valid) : solve i = geometry i := if_neg h

/-- Without a fix the computation is refused NO_FIX. -/
theorem solve_without_fix {i : SolveInputs} (h : i.fix = none) : solve i = { solutionHead i with status := .noFix } := by
  have hg : geometry i = { solutionHead i with status := .noFix } := by simp only [geometry, h]
  rw [solve_refused (by simp [hg]), hg]

/-- Without a heading the computation is refused NO_FIX. -/
theorem solve_without_heading {i : SolveInputs} {f : Fix} (hf : i.fix = some f) (hh : f.headingPresent = false) :
    solve i = { solutionHead i with status := .noFix } := by
  have hg : geometry i = { solutionHead i with status := .noFix } := by simp only [geometry, hf, if_pos hh]
  rw [solve_refused (by simp [hg]), hg]

/-- Without the site's record the computation is refused NO_SITE. -/
theorem solve_without_site {i : SolveInputs} {f : Fix} (hf : i.fix = some f) (hh : f.headingPresent = true) (hr : i.site = none) :
    solve i = { solutionHead i with status := .noSite } := by
  have hg : geometry i = { solutionHead i with status := .noSite } := by simp [geometry, hf, hh, hr]
  rw [solve_refused (by simp [hg]), hg]

/-- Beyond 80° of latitude, of the fix or of the site, the computation is refused GEOMETRY with LATITUDE. -/
theorem solve_beyond_latitude {i : SolveInputs} {f : Fix} {r : Site} (hf : i.fix = some f) (hh : f.headingPresent = true)
    (hr : i.site = some r) (hl : 800000000 < f.lat.natAbs ∨ 800000000 < r.lat.natAbs) :
    solve i = { solutionHead i with status := .geometry, detail := some .latitude } := by
  have hg : geometry i = { solutionHead i with status := .geometry, detail := some .latitude } := by
    simp [geometry, hf, hh, hr, if_pos hl]
  rw [solve_refused (by simp [hg]), hg]

/-- The head of a record: the site, the number of the fix used (0 without one) and the extension used. -/
theorem solutionHead_solveInputs (s : State) (n e : Nat) :
    solutionHead (s.solveInputs n e)
      = { site := n, fixNumber := (s.fix.map (fun f => f.number)).getD 0, extension := e } := by
  cases h : s.fix <;> simp [solutionHead, State.solveInputs, h]

/-! ## The request (R26) -/

/-- The fields of a SOLVE lie in their ranges: the site, and the extension where one is named. -/
def solveInRange (n flag : Byte) (ext : Half) : Prop := n.toNat ≤ 15 ∧ (flag = 0 ∨ (flag = 1 ∧ ext.toNat ≤ 15000))

/-- The extension that a SOLVE computes at: the named one, or the counter's. -/
def State.solveExtension (s : State) (flag : Byte) (ext : Half) : Nat := if flag = 1 then ext.toNat else s.extension

/-- In its ranges a SOLVE writes the solution at its extension and replies with it. -/
theorem answerSolve_inRange {n flag : Byte} {ext : Half} (h : solveInRange n flag ext) (s : State) :
    let q := solve (s.solveInputs n.toNat (s.solveExtension flag ext))
    answerSolve n flag ext s = { status := solveStatus q, body := solutionBytes q, st := { s with solution := q } } := by
  obtain ⟨hn, rfl | ⟨rfl, he⟩⟩ := h
  · have hok : ¬ (15 < n.toNat ∨ (false = true ∧ 15000 < ext.toNat)) := fun hc =>
      hc.elim (Nat.not_lt.mpr hn) (fun hx => Bool.false_ne_true hx.1)
    exact if_neg hok
  · have hok : ¬ (15 < n.toNat ∨ (true = true ∧ 15000 < ext.toNat)) := fun hc =>
      hc.elim (Nat.not_lt.mpr hn) (fun hx => Nat.not_lt.mpr he hx.2)
    exact if_neg hok

/-- A SOLVE for a site above 15 or for a named extension above 15,000 mm is refused RANGE. -/
theorem answerSolve_range {n flag : Byte} {ext : Half} (h : 15 < n.toNat ∨ (flag = 1 ∧ 15000 < ext.toNat)) (s : State) :
    answerSolve n flag ext s = refuse .range s := by
  unfold answerSolve
  cases hf : flagOf flag with
  | none => rfl
  | some named =>
    have hnamed : flag = 1 → named = true := by rintro rfl; exact (Option.some.inj hf).symm
    exact if_pos (h.imp_right (And.imp_left hnamed))

/-- A SOLVE in its ranges is answered with the record of its computation, and writes that alone. -/
theorem answered_solve {s : State} (hs : s.takesNow) (tag : Byte) {n flag : Byte} {ext : Half} (h : solveInRange n flag ext)
    {q : Solution} (hq : solve (s.solveInputs n.toNat (s.solveExtension flag ext)) = q) :
    Answered (.solve tag n flag ext) s 0x11 tag (solveStatus q) (solutionBytes q) { s with solution := q } := by
  subst hq
  exact answered_of_request hs (answerSolve_inRange h s) rfl rfl rfl

/-- Settles O19: a SOLVE in its ranges is answered with its computation's record, and each refusal's record is the head with its status. -/
theorem solveWritesTheSolutionAlone : Obligations.SolveWritesTheSolutionAlone := by
  unfold Obligations.SolveWritesTheSolutionAlone
  intro s tag n flag ext hs e fields head ends
  have hhead : solutionHead (s.solveInputs n.toNat (s.solveExtension flag ext)) = head := solutionHead_solveInputs s n.toNat e
  refine ⟨fun h => ?computed, fun h hf => ?noFix, fun h f hf => ⟨fun hh => ?noHeading, fun hh hr => ?noSite, fun hh r hr hl => ?latitude⟩,
    fun h => ?range⟩
  case computed =>
    intro q st
    have hst : solveStatus q = st := by
      simp only [st, solveStatus, solutionRefusal]
      cases q.status <;> rfl
    exact hst ▸ answered_solve hs tag h rfl
  case noFix => exact answered_solve hs tag h (hhead ▸ solve_without_fix hf)
  case noHeading => exact answered_solve hs tag h (hhead ▸ solve_without_heading hf hh)
  case noSite => exact answered_solve hs tag h (hhead ▸ solve_without_site hf hh hr)
  case latitude => exact answered_solve hs tag h (hhead ▸ solve_beyond_latitude hf hh hr hl)
  case range => exact answered_of_request hs (answerSolve_range h s) rfl rfl rfl

end Sys2Proof.Machine
end

section
/-! PROOFS. The combined action (R129): what one more contributor makes of each entry, and each entry over all the contributors. -/

namespace Sys2Proof.Machine

open Sys2Proof

/-! ## The more severe of two entries (R129) -/

/-- STOP is the most severe raising entry. -/
theorem worseRaising_eq_stop (a : Option RaisingChoice) (b : RaisingChoice) :
    worseRaising a b = some .stop ↔ a = some .stop ∨ b = .stop := by
  cases a with
  | none => cases b <;> simp [worseRaising]
  | some x => cases x <;> cases b <;> simp [worseRaising]

/-- STOP is the most severe lowering entry. -/
theorem worseLowering_eq_stop (a : Option LoweringChoice) (b : LoweringChoice) :
    worseLowering a b = some .stop ↔ a = some .stop ∨ b = .stop := by
  cases a with
  | none => cases b <;> simp [worseLowering]
  | some x => cases x <;> cases b <;> simp [worseLowering]

/-- A contributor leaves no lowering entry of NONE: CONTINUE stands where none carries STOP. -/
theorem worseLowering_ne_none (a : Option LoweringChoice) (b : LoweringChoice) : worseLowering a b ≠ none := by
  cases a with
  | none => cases b <;> simp [worseLowering]
  | some x => cases x <;> cases b <;> simp [worseLowering]

/-- HOLD is the most severe positioner entry. -/
theorem worsePositioner_eq_hold (a b : PositionerChoice) : worsePositioner a b = .hold ↔ a = .hold ∨ b = .hold := by
  cases a <;> cases b <;> simp [worsePositioner]

/-- NONE is the least severe positioner entry. -/
theorem worsePositioner_ne_noAction (a b : PositionerChoice) :
    worsePositioner a b ≠ .noAction ↔ a ≠ .noAction ∨ b ≠ .noAction := by
  cases a <;> cases b <;> simp [worsePositioner]

/-- Of two choices, with the more severe one taken first, the more severe comes out where either is it. -/
theorem ite_eq_severe_iff {α : Type} [DecidableEq α] (a b m : α) : (if a = m then m else b) = m ↔ a = m ∨ b = m :=
  ite_eq_left_iff.trans Decidable.or_iff_not_imp_left.symm

/-! ## The entries over the contributors (R122, R129) -/

/-- To contribute is to be enabled and not CLEAR (R122). -/
theorem contributes_iff (r : SourceRec) : contributes r = true ↔ r.config.enabled = true ∧ r.state ≠ .clear := by
  simp [contributes]

/-- A source of the list contributes an action record with the property `p`. -/
def Trips.GivesIn (t : Trips) (p : ActionRec → Prop) (l : List Source) : Prop :=
  ∃ n ∈ l, (t.source n).config.enabled = true ∧ (t.source n).state ≠ .clear ∧ p (t.source n).config.action

/-- The first source of a list contributes such a record, or one of the rest does. -/
theorem Trips.givesIn_cons (t : Trips) (p : ActionRec → Prop) (n : Source) (l : List Source) :
    t.GivesIn p (n :: l) ↔ (contributes (t.source n) = true ∧ p (t.source n).config.action) ∨ t.GivesIn p l := by
  simp only [Trips.GivesIn, List.mem_cons, or_and_right, exists_or, exists_eq_left, contributes_iff, and_assoc]

/-- A property of the combined action that a contributor brings about exactly by `p`, and that stays once it holds, holds after the
contributors of a list where it held before or one of them gives `p`. -/
theorem Trips.foldl_combineWith_iff {q : CombinedAction → Prop} {p : ActionRec → Prop}
    (hstep : ∀ c r, q (combineWith c r) ↔ q c ∨ p r) (t : Trips) (l : List Source) (c : CombinedAction) :
    q (l.foldl (fun c n => if contributes (t.source n) then combineWith c (t.source n).config.action else c) c)
      ↔ q c ∨ t.GivesIn p l := by
  induction l generalizing c with
  | nil => simp [Trips.GivesIn]
  | cons n l ih =>
    rw [List.foldl_cons, ih, Trips.givesIn_cons]
    by_cases hn : contributes (t.source n) = true
    · simp only [hn, if_true, true_and, hstep, or_assoc]
    · simp only [hn, Bool.false_eq_true, if_false, false_and, false_or]

/-- A property that the action of no contributor lacks, and that a contributor brings about exactly by `p`, holds of the combined action
where some source gives `p`. -/
theorem State.action_iff {q : CombinedAction → Prop} {p : ActionRec → Prop} (hnone : ¬ q {})
    (hstep : ∀ c r, q (combineWith c r) ↔ q c ∨ p r) (s : State) : q s.action ↔ s.trips.GivesIn p allSources :=
  (Trips.foldl_combineWith_iff hstep s.trips allSources {}).trans (or_iff_right hnone)

/-- The raising entry is there where a source contributes. -/
theorem State.action_raising_ne_none (s : State) : s.action.raising ≠ none ↔ s.trips.GivesIn (fun _ => True) allSources :=
  s.action_iff (q := fun c => c.raising ≠ none) (by simp)
    (fun c r => iff_of_true (Option.isSome_iff_ne_none.mp (worseRaising_some c.raising r.raising)) (.inr trivial))

/-- The lowering entry is there where a source contributes. -/
theorem State.action_lowering_ne_none (s : State) : s.action.lowering ≠ none ↔ s.trips.GivesIn (fun _ => True) allSources :=
  s.action_iff (q := fun c => c.lowering ≠ none) (by simp)
    (fun c r => iff_of_true (worseLowering_ne_none c.lowering r.lowering) (.inr trivial))

/-- The positioner is asked to do something where a source gives HOLD or STOW. -/
theorem State.action_positioner_ne_noAction (s : State) :
    s.action.positioner ≠ .noAction ↔ s.trips.GivesIn (fun x => x.positioner ≠ .noAction) allSources :=
  s.action_iff (q := fun c => c.positioner ≠ .noAction) (by simp)
    (fun c r => worsePositioner_ne_noAction c.positioner r.positioner)

/-- Settles O48: each entry follows the contributors one by one, by its own rule of severity. -/
theorem combinedActionIsTheMostSevere : Obligations.CombinedActionIsTheMostSevere := by
  unfold Obligations.CombinedActionIsTheMostSevere
  intro s
  refine ⟨?raisingStop, ?raisingNone, ?loweringStop, ?loweringNone, ?restLower, ?hold, ?noPositioner, ?inhibit⟩
  case raisingStop =>
    exact s.action_iff (q := fun c => c.raising = some .stop) (by simp) (fun c r => worseRaising_eq_stop c.raising r.raising)
  case raisingNone => exact Decidable.not_not.symm.trans (not_congr s.action_raising_ne_none)
  case loweringStop =>
    exact s.action_iff (q := fun c => c.lowering = some .stop) (by simp) (fun c r => worseLowering_eq_stop c.lowering r.lowering)
  case loweringNone => exact Decidable.not_not.symm.trans (not_congr s.action_lowering_ne_none)
  case restLower =>
    exact s.action_iff (q := fun c => c.rest = .lower) (by simp) (fun c r => ite_eq_severe_iff c.rest r.rest .lower)
  case hold =>
    exact s.action_iff (q := fun c => c.positioner = .hold) (by simp) (fun c r => worsePositioner_eq_hold c.positioner r.positioner)
  case noPositioner => exact Decidable.not_not.symm.trans (not_congr s.action_positioner_ne_noAction)
  case inhibit =>
    exact s.action_iff (q := fun c => c.transmit = .inhibit) (by simp) (fun c r => ite_eq_severe_iff c.transmit r.transmit .inhibit)

end Sys2Proof.Machine
end

section
/-! PROOFS. The transmit permit (R166 to R172): what the gate reads, that its formed state is exact, what is handed on at a change of it,
and that every answer, every event and every step leaves it exact. -/

namespace Sys2Proof.Machine

open Sys2Proof

/-! ## What the gate reads (R167 to R171) -/

/-- An exact gate stays exact under whatever leaves the gate's record and the reasons alone. -/
theorem State.GateExact.carry {s t : State} (h : s.GateExact) (hg : t.gate = s.gate) (hr : t.reasons = s.reasons) : t.GateExact := by
  unfold State.GateExact State.gateVerdict at h ⊢
  rw [hg, hr, h]

/-- No reason stands exactly where each of the six conditions holds. -/
theorem Reasons.isEmpty_iff (r : Reasons) :
    r.isEmpty = true ↔
      r.trip = false ∧ r.mast = false ∧ r.axes = false ∧ r.stowed = false ∧ r.sector = false ∧ r.shadowLow = false := by
  simp only [Reasons.isEmpty, Bool.and_eq_true, Bool.not_eq_true', and_assoc]

/-- The verdict is ON exactly where the request is set and no reason stands. -/
theorem State.gateVerdict_eq_on_iff (s : State) : s.gateVerdict = .on ↔ s.gate.request = true ∧ s.reasons.isEmpty = true := by
  unfold State.gateVerdict
  cases s.gate.request <;> simp

/-- The verdict is OFF exactly where the request is clear. -/
theorem State.gateVerdict_eq_off_iff (s : State) : s.gateVerdict = .off ↔ s.gate.request = false := by
  unfold State.gateVerdict
  cases s.gate.request with
  | false => simp
  | true => cases s.reasons.isEmpty <;> simp

/-- A gate with its request clear is exact in OFF, whatever the conditions are. -/
theorem State.gateExact_of_off {s : State} (hr : s.gate.request = false) (ho : s.gate.state = .off) : s.GateExact :=
  ho.trans (s.gateVerdict_eq_off_iff.mpr hr).symm

/-- The sector under the pan does not forbid: it is neither NO_TX nor BLOCKED (R169). -/
theorem sectorForbids_eq_false_iff (r : Option SectorRec) :
    sectorForbids r = false ↔ ∀ x, r = some x → x.attr ≠ .noTx ∧ x.attr ≠ .blocked := by
  cases r with
  | none => simp [sectorForbids]
  | some x => simp [sectorForbids]

/-- No shadow forbids: under a SHADOW sector the pivot stands at its height or above (R169). -/
theorem shadowForbids_eq_false_iff (r : Option SectorRec) (p : Nat) :
    shadowForbids r p = false ↔ ∀ x, r = some x → x.attr = .shadow → x.height ≤ p := by
  cases r with
  | none => simp [shadowForbids]
  | some x => simp [shadowForbids]

/-- Where no reason stands, every permit condition holds (R167 to R170). -/
theorem State.conditions_of_no_reason {s : State} (h : s.reasons.isEmpty = true) :
    s.action.transmit = .noAction ∧ (s.mast.state = .rest ∨ s.mast.state = .topping)
      ∧ axisPermits s.pos.pan s.trackSearching = true ∧ axisPermits s.pos.tilt s.trackSearching = true
      ∧ s.lines.tiltStow.level = false
      ∧ ∀ r, s.recordUnderPan = some r → r.attr ≠ .noTx ∧ r.attr ≠ .blocked ∧ (r.attr = .shadow → r.height ≤ s.pivotHeight) := by
  obtain ⟨htrip, hmast, haxes, hstowed, hsector, hshadow⟩ := (Reasons.isEmpty_iff _).mp h
  have htransmit : s.action.transmit ≠ .inhibit := of_decide_eq_false htrip
  obtain ⟨hpan, htilt⟩ := Bool.and_eq_true_iff.mp ((Bool.not_eq_false' ..).mp haxes)
  refine ⟨?_, of_decide_eq_true ((Bool.not_eq_false' ..).mp hmast), hpan, htilt, hstowed, fun r hr => ?_⟩
  · cases ht : s.action.transmit with
    | noAction => rfl
    | inhibit => exact absurd ht htransmit
  · obtain ⟨hnoTx, hblocked⟩ := (sectorForbids_eq_false_iff _).mp hsector r hr
    exact ⟨hnoTx, hblocked, (shadowForbids_eq_false_iff _ _).mp hshadow r hr⟩

/-! ## What leaves the reasons alone -/

/-- A violation leaves the gate and the reasons. -/
theorem State.GateExact.recordViolation {s : State} (h : s.GateExact) (k : ViolationKind) (n : Nat) (p : Int) :
    (s.recordViolation k n p).GateExact := by
  unfold State.recordViolation
  split <;> exact h.carry rfl rfl

/-- A refusal with its violation leaves the gate and the reasons. -/
theorem State.GateExact.noteRefusal {s : State} (h : s.GateExact) (st : Status) (t : Int) : (s.noteRefusal st t).GateExact := by
  unfold State.noteRefusal State.pathViolation
  split
  · split
    · exact h.recordViolation ..
    · exact h
  · exact h

/-- A slot that is filled is no condition of the permit (R168). -/
theorem State.GateExact.setSlot {s : State} (h : s.GateExact) (a : Axis) (x : Option Int) :
    (s.setAxis a { s.axis a with slot := x }).GateExact := by
  cases a <;> exact h.carry rfl rfl

/-- The gate reads no search profile. -/
theorem State.GateExact.withProfile {s : State} (h : s.GateExact) (k : SearchKind) (p : Profile) : (s.withProfile k p).GateExact := by
  cases k <;> exact h.carry rfl rfl

/-- The gate reads no interval timer. -/
theorem State.GateExact.setTimer {s : State} (h : s.GateExact) (n : TimerName) (t : IntervalTimer) : (s.setTimer n t).GateExact := by
  cases n <;> exact h.carry rfl rfl

/-- The owner of the positioner is no condition of the permit, and neither are the slots that its change empties (R54, R168). -/
theorem State.GateExact.setOwner {s : State} (h : s.GateExact) (o : Owner) : (s.setOwner o).GateExact := by
  unfold State.setOwner
  split <;> exact h.carry rfl rfl

/-- The taking of a DEPLOY gives the plant to the sequence, which is no condition of the permit (R180). -/
theorem State.GateExact.deployTakes {s : State} (h : s.GateExact) (d : DeployRec) : (s.deployTakes d).GateExact := by
  have hs : ({ s with seq := { s.seq.noWait with deploy := some d, failure := none }
                      tracking := { s.tracking with site := some d.site } } : State).GateExact := h.carry rfl rfl
  exact (hs.setOwner .sequence).carry rfl rfl

/-- A mast record that stands in REST or TOPPING exactly where the last one did, at the same count, leaves the reasons. -/
theorem State.reasons_withMast (s : State) {m : Mast}
    (hs : (m.state = .rest ∨ m.state = .topping) ↔ (s.mast.state = .rest ∨ s.mast.state = .topping))
    (hc : m.counter = s.mast.counter) : ({ s with mast := m }).reasons = s.reasons := by
  have hp : ({ s with mast := m } : State).pivotHeight = s.pivotHeight := by
    simp only [State.pivotHeight, State.extension, Mast.extension, hc]
  have hm : decide (m.state = .rest ∨ m.state = .topping) = decide (s.mast.state = .rest ∨ s.mast.state = .topping) :=
    decide_eq_decide.mpr hs
  unfold State.reasons
  rw [hp]
  dsimp only
  rw [hm]
  rfl

/-- The taking of a MAST_TO ends a top-up in REST, which permits as well (R97, R167). -/
theorem State.mastTakes_reasons (s : State) (h : Nat) (o : MastOwner) : (s.mastTakes h o).reasons = s.reasons := by
  unfold State.mastTakes
  by_cases ht : s.mast.state = .topping
  · simp only [if_pos ht]
    exact s.reasons_withMast (by simp [Mast.stand, ht]) rfl
  · simp only [if_neg ht]
    exact s.reasons_withMast Iff.rfl rfl

/-- An axis in REST permits by its reference alone, whatever search runs (R168). -/
theorem axisPermits_at_rest {x : AxisRec} (h : x.motion = .rest) (tracking : Bool) : axisPermits x tracking = x.referenced := by
  simp [axisPermits, h]

/-- With pan and tilt in REST the search is no condition of the permit (R168). -/
theorem State.reasons_withSearch {s : State} (hp : s.pos.pan.motion = .rest) (ht : s.pos.tilt.motion = .rest) (q : Search) :
    ({ s with search := q }).reasons = s.reasons := by
  unfold State.reasons
  simp only [axisPermits_at_rest hp, axisPermits_at_rest ht]
  rfl

/-- A search that passes its checks finds pan and tilt in REST (R143). -/
theorem State.dish_at_rest_of_searchRefusal {s : State} {o : Owner} {n : Nat} (h : s.searchRefusal o n = none) :
    s.pos.pan.motion = .rest ∧ s.pos.tilt.motion = .rest := by
  unfold State.searchRefusal at h
  repeat' split at h
  all_goals simp_all

/-- A line record that keeps its debounced level leaves the level of TILT_STOW. -/
theorem Lines.tiltStow_setLine_level (l : Lines) {n : Line} {x : LineRec} (h : x.level = (l.line n).level) :
    (l.setLine n x).tiltStow.level = l.tiltStow.level := by
  cases n with
  | tiltStow => exact h
  | _ => rfl

/-- A millisecond leaves what a trip source contributes (R127). -/
theorem SourceRec.passed_contribution (r : SourceRec) :
    contributes r.passed = contributes r ∧ r.passed.config = r.config := by
  unfold SourceRec.passed
  repeat' split
  all_goals exact ⟨rfl, rfl⟩

/-- A millisecond passes at each trip source. -/
theorem Trips.source_passed (t : Trips) (n : Source) : t.passed.source n = (t.source n).passed := by cases n <;> rfl

/-- A millisecond leaves the combined action (R129). -/
theorem Trips.combined_passed (t : Trips) : t.passed.combined = t.combined := by
  unfold Trips.combined
  simp only [Trips.source_passed, (SourceRec.passed_contribution _).1, (SourceRec.passed_contribution _).2]

/-- A millisecond leaves the reasons: no condition of the permit is a running time. -/
theorem State.tick_reasons (s : State) : s.tick.reasons = s.reasons := by
  have ha : s.tick.action = s.action := s.trips.combined_passed
  unfold State.reasons
  rw [ha]
  rfl

/-- The transmitter's decision leaves the gate and the reasons. -/
theorem State.GateExact.arbitrate {s : State} (h : s.GateExact) : s.arbitrate.GateExact := by
  rw [State.arbitrate_link]
  exact h.carry rfl rfl

/-- The start of a reply leaves the gate and the reasons. -/
theorem State.GateExact.kick {s : State} (h : s.GateExact) : s.kick.GateExact := by
  rw [State.kick_link]
  exact h.carry rfl rfl

/-! ## What leaves the gate's record alone -/

@[simp] theorem State.stopAxis_gate (s : State) (a : Axis) (e : Arrival) : (s.stopAxis a e).gate = s.gate := by
  unfold State.stopAxis
  split <;> rfl

@[simp] theorem State.failStop_gate (s : State) (a : Axis) : (s.failStop a).gate = s.gate := by
  unfold State.failStop
  split <;> rfl

@[simp] theorem State.mastStop_gate (s : State) : s.mastStop.gate = s.gate := by
  unfold State.mastStop
  split <;> simp

@[simp] theorem State.failStopMast_gate (s : State) : s.failStopMast.gate = s.gate := by
  unfold State.failStopMast
  dsimp only
  split <;> simp

@[simp] theorem State.cutSearch_gate (s : State) (f : FinalStatus) : (s.cutSearch f).gate = s.gate := by
  unfold State.cutSearch State.endSearch State.stopDish
  dsimp only
  split <;> simp

/-- A sequence that releases the plant leaves the gate's record (R187). -/
@[simp] theorem State.seqRelease_gate (s : State) : s.seqRelease.gate = s.gate := by
  unfold State.seqRelease
  dsimp only
  repeat' split
  all_goals simp

/-- A sequence that fails for another cause than its transmit wait leaves the gate's record (R187). -/
theorem State.seqFail_gate (s : State) {c : Cause} (hc : c ≠ .txTimeout) : (s.seqFail c).gate = s.gate := by
  unfold State.seqFail
  simp [hc]

/-! ## The gate forms its state (R171) -/

/-- A formed gate is exact: its own state is no part of the verdict. -/
theorem State.gateForm_gateExact (s : State) : s.gateForm.GateExact := by
  unfold State.gateForm
  dsimp only
  split
  next h => exact h.symm
  next => rfl

/-- A request set or cleared leaves an exact gate exact (R173). -/
theorem State.GateExact.setRequest {s : State} (h : s.GateExact) (on : Bool) : (s.setRequest on).GateExact := by
  unfold State.setRequest
  split
  · exact h
  · exact State.gateForm_gateExact _

/-- The request stands as it was set (R173). -/
theorem State.setRequest_request (s : State) (on : Bool) : (s.setRequest on).gate.request = on := by
  unfold State.setRequest
  split
  next h => exact h
  next => unfold State.gateForm; dsimp only; split <;> rfl

/-- The entry into DEPLOYED leaves the gate and the reasons (R186). -/
theorem State.GateExact.enterDeployed {s : State} (h : s.GateExact) : s.enterDeployed.GateExact := by
  unfold State.enterDeployed
  dsimp only
  repeat' split
  all_goals exact h.carry rfl rfl

/-- What the sequence makes of a change of the gate leaves an exact gate exact: a withdrawal stops the plant, but with the request
clear the gate is OFF whatever the plant does (R185). -/
theorem State.GateExact.seqGate {s : State} (h : s.GateExact) : s.seqGate.GateExact := by
  unfold State.seqGate
  split
  next =>
    split
    next => exact h.enterDeployed
    next ho =>
      have hr : s.gate.request = false := s.gateVerdict_eq_off_iff.mp (h.symm.trans ho)
      have hg : (s.seqFail .txWithdrawn).gate = s.gate := s.seqFail_gate (by decide)
      exact State.gateExact_of_off (by rw [hg, hr]) (by rw [hg, ho])
    next => exact h
  next => exact h

/-- The gate is exact once it has formed its state and handed a change on. -/
theorem State.gateSync_gateExact (s : State) : s.gateSync.GateExact := by
  unfold State.gateSync
  dsimp only
  split
  · exact s.gateForm_gateExact
  · exact s.gateForm_gateExact.seqGate

/-- The gate is exact after every round, which ends with it (R130, R171). -/
theorem State.round_gateExact (s : State) : s.round.GateExact := by
  unfold State.round
  exact State.gateSync_gateExact _

/-- The gate is exact after every settling, whatever went before. -/
@[simp] theorem State.reconcile_gateExact (s : State) : s.reconcile.GateExact := by
  unfold State.reconcile
  exact State.round_gateExact _

end Sys2Proof.Machine
end

section
/-! PROOFS. The answers to the requests leave the gate exact (R196): most settle the plant, the others touch nothing that the gate reads, and
STOW_ALL clears the transmit request. -/

namespace Sys2Proof.Machine

open Sys2Proof

/-! ## The shapes of an answer (R196) -/

@[simp] theorem refuse_st (st : Status) (s : State) : (refuse st s).st = s := rfl
@[simp] theorem accept_st (s : State) (b : List Byte) : (accept s b).st = s := rfl

section
variable {s : State} (h : s.GateExact)
include h

/-! ## Requests that settle the plant -/

theorem answerAim_gateExact (site : Byte) : (answerAim site s).st.GateExact := by
  unfold answerAim
  split
  · exact h
  · simp

theorem answerMapWrite_gateExact (layer first count attr : Byte) (height : Half) :
    (answerMapWrite layer first count attr height s).st.GateExact := by
  unfold answerMapWrite
  dsimp only
  repeat' split
  all_goals simp [h]

theorem answerCeilingSet_gateExact (height : Half) : (answerCeilingSet height s).st.GateExact := by
  unfold answerCeilingSet
  split
  · simp
  · exact h

theorem answerStowAzimuth_gateExact (z : Half) : (answerStowAzimuth z s).st.GateExact := by
  unfold answerStowAzimuth
  repeat' split
  all_goals simp [h]

theorem answerAxisMoment_gateExact (axis moment : Byte) : (answerAxisMoment axis moment s).st.GateExact := by
  unfold answerAxisMoment
  repeat' split
  all_goals simp [h]

theorem answerSync_gateExact : (answerSync s).st.GateExact := by
  unfold answerSync
  repeat' split
  all_goals simp [h, h.noteRefusal]

theorem answerAxisStop_gateExact (axis : Byte) : (answerAxisStop axis s).st.GateExact := by
  unfold answerAxisStop
  repeat' split
  all_goals simp [h]

theorem State.jogAnswer_gateExact (a : Axis) (positive fast : Bool) : (s.jogAnswer a positive fast).st.GateExact := by
  unfold State.jogAnswer
  dsimp only
  repeat' split
  all_goals simp [h, h.recordViolation]

theorem answerJog_gateExact (axis direction speed : Byte) : (answerJog axis direction speed s).st.GateExact := by
  unfold answerJog
  repeat' split
  all_goals simp [h, State.jogAnswer_gateExact h]

theorem answerHome_gateExact (axis : Byte) : (answerHome axis s).st.GateExact := by
  unfold answerHome
  repeat' split
  all_goals simp [h, h.noteRefusal]

/-- A STOW that is refused leaves its violation alone (R71). -/
theorem State.GateExact.stow_refused {o : Owner} (hr : (s.stow o).2 = false) : (s.stow o).1.GateExact := by
  unfold State.stow at hr ⊢
  split
  · exact h.noteRefusal .blocked 0
  · next hb => simp [hb] at hr

theorem answerStow_gateExact : (answerStow s).st.GateExact := by
  unfold answerStow
  split
  · exact h
  · dsimp only
    split
    · simp
    · next hr => exact h.stow_refused (by simpa using hr)

theorem answerMastStop_gateExact : (answerMastStop s).st.GateExact := by
  unfold answerMastStop
  split
  · exact h
  · simp

theorem answerMastParam_gateExact (name : Byte) (value : Half) : (answerMastParam name value s).st.GateExact := by
  unfold answerMastParam
  repeat' split
  all_goals simp [h]

theorem answerCalSet_gateExact (item : Byte) (value : Half) : (answerCalSet item value s).st.GateExact := by
  unfold answerCalSet levelHere
  dsimp only
  repeat' split
  all_goals simp [h]

theorem answerLimitSet_gateExact (tiltLimit supplyLow : Half) : (answerLimitSet tiltLimit supplyLow s).st.GateExact := by
  unfold answerLimitSet
  split
  · exact h
  · simp

theorem answerWindSet_gateExact (gateLength windRun windLimit : Half) :
    (answerWindSet gateLength windRun windLimit s).st.GateExact := by
  unfold answerWindSet
  split
  · exact h
  · simp

theorem answerTripConfig_gateExact (source enable mode : Byte) (delay : Half) (raising lowering rest positioner transmit : Byte) :
    (answerTripConfig source enable mode delay raising lowering rest positioner transmit s).st.GateExact := by
  unfold answerTripConfig
  repeat' split
  all_goals simp [h]

theorem answerTripClear_gateExact (sources : Half) : (answerTripClear sources s).st.GateExact := by
  unfold answerTripClear
  split
  · exact h
  · simp

theorem answerSearchAbort_gateExact : (answerSearchAbort s).st.GateExact := by
  unfold answerSearchAbort
  split
  · simp
  · exact h

theorem answerTxRequest_gateExact (choice : Byte) : (answerTxRequest choice s).st.GateExact := by
  unfold answerTxRequest State.requestGate
  repeat' split
  all_goals simp [h]

/-! ## Requests whose effects the gate does not read -/

theorem answerSave_gateExact : (answerSave s).st.GateExact := by
  unfold answerSave
  split
  · exact h
  · exact h.carry rfl rfl

theorem answerSiteStore_gateExact (number : Byte) (lat lon alt : Quad) (pol beaconFloor beaconCeiling : Half) (name : List Byte) :
    (answerSiteStore number lat lon alt pol beaconFloor beaconCeiling name s).st.GateExact := by
  unfold answerSiteStore
  split
  · exact h.carry rfl rfl
  · exact h

theorem answerSiteErase_gateExact (number : Byte) : (answerSiteErase number s).st.GateExact := by
  unfold answerSiteErase
  split
  · exact h
  · split
    · exact h
    · exact h.carry rfl rfl

theorem answerFix_gateExact (lat lon alt : Quad) (flag : Byte) (heading : Half) :
    (answerFix lat lon alt flag heading s).st.GateExact := by
  unfold answerFix
  split
  · exact h
  · split
    · exact h.carry rfl rfl
    · exact h

theorem answerSolve_gateExact (site flag : Byte) (ext : Half) : (answerSolve site flag ext s).st.GateExact := by
  unfold answerSolve
  split
  · exact h
  · split
    · exact h
    · exact h.carry rfl rfl

theorem answerAxisTarget_gateExact (axis : Byte) (position : Half) : (answerAxisTarget axis position s).st.GateExact := by
  unfold answerAxisTarget
  dsimp only
  repeat' split
  all_goals simp [h, h.noteRefusal, h.setSlot]

theorem answerSlewSet_gateExact (axis slewClass : Byte) : (answerSlewSet axis slewClass s).st.GateExact := by
  unfold answerSlewSet
  split
  · split
    · exact h
    · exact h.carry rfl rfl
  · exact h

theorem answerIndexSet_gateExact (axis : Byte) (position : Half) : (answerIndexSet axis position s).st.GateExact := by
  unfold answerIndexSet
  split
  · exact h
  · split
    · exact h
    · split
      · exact h
      · exact h.carry rfl rfl

theorem answerMastTo_gateExact (height : Half) : (answerMastTo height s).st.GateExact := by
  unfold answerMastTo
  dsimp only
  split
  · exact h
  · split
    · exact h
    · exact h.carry rfl (s.mastTakes_reasons _ _)

theorem answerMastLower_gateExact : (answerMastLower s).st.GateExact := by
  unfold answerMastLower
  split
  · exact h
  · split
    · exact h
    · exact h.carry rfl rfl

theorem answerSearchParam_gateExact (profile : Byte) (initialStep minStep margin dwell : Half) (samples budget : Byte)
    (radius : Half) : (answerSearchParam profile initialStep minStep margin dwell samples budget radius s).st.GateExact := by
  unfold answerSearchParam
  split
  · exact h
  · split
    · exact h.withProfile ..
    · exact h

theorem answerTrack_gateExact (choice : Byte) (interval : Half) : (answerTrack choice interval s).st.GateExact := by
  unfold answerTrack
  split
  · exact h
  · exact h.carry rfl rfl
  · exact h.carry rfl rfl

theorem answerDeploy_gateExact (site : Byte) (height options interval : Half) :
    (answerDeploy site height options interval s).st.GateExact := by
  unfold answerDeploy
  dsimp only
  split
  · exact h
  · split
    · exact h
    · split
      · exact h
      · exact h.deployTakes _

theorem answerNoticeMask_gateExact (kinds : Half) : (answerNoticeMask kinds s).st.GateExact := by
  unfold answerNoticeMask
  split
  · exact h
  · exact h.carry rfl rfl

theorem answerPendingClear_gateExact (kinds : Half) : (answerPendingClear kinds s).st.GateExact := by
  unfold answerPendingClear
  split
  · exact h
  · exact h.carry rfl rfl

theorem answerTimerSet_gateExact (timer mode : Byte) (interval : Half) : (answerTimerSet timer mode interval s).st.GateExact := by
  unfold answerTimerSet
  split
  · exact h.setTimer ..
  · exact h

end

/-! ## SEARCH (R143 to R145) -/

/-- A search that a start refuses has found no site, or ends at once over its raw solution (R145). -/
theorem State.startSearch_refused {s : State} {k : SearchKind} {o : SearchOrigin} {n : Nat} (h : (s.startSearch k o n).2 ≠ .ok) :
    (s.startSearch k o n).1 = s ∨ ∃ f, (s.startSearch k o n).1 = s.refusedSearch k n f := by
  unfold State.startSearch at h ⊢
  split
  next => exact .inl rfl
  next hr =>
    cases o with
    | here => simp [hr] at h
    | site m =>
      dsimp only at h ⊢
      split
      next hraw => simp [hr, hraw] at h
      next => exact .inr ⟨_, rfl⟩

/-- A search that is refused at its start writes its record alone; pan and tilt stand in REST, so that the gate does not read it. -/
theorem State.GateExact.startSearch_refused {s : State} (h : s.GateExact) {k : SearchKind} {o : SearchOrigin} {w : Owner} {n m : Nat}
    (hc : s.searchRefusal w m = none) (hn : (s.startSearch k o n).2 ≠ .ok) : (s.startSearch k o n).1.GateExact := by
  obtain ⟨hpan, htilt⟩ := State.dish_at_rest_of_searchRefusal hc
  obtain he | ⟨f, he⟩ := State.startSearch_refused hn
  · rw [he]
    exact h
  · rw [he]
    exact h.carry rfl (State.reasons_withSearch hpan htilt _)

theorem answerSearch_gateExact {s : State} (h : s.GateExact) (kind origin site : Byte) :
    (answerSearch kind origin site s).st.GateExact := by
  unfold answerSearch
  split
  next k o _ _ =>
    split
    · exact h
    · split
      · exact h
      next hc =>
        dsimp only
        split
        · exact State.reconcile_gateExact _
        next hn => exact h.startSearch_refused hc hn
  next => exact h

/-! ## STOW_ALL (R188) -/

/-- An accepted STOW_ALL clears the request and leaves the gate's record after that. -/
theorem State.stowAllTakes_gate (s : State) : s.stowAllTakes.gate = (s.setRequest false).gate := by
  unfold State.stowAllTakes
  dsimp only
  rw [State.mastStop_gate, State.stopAxis_gate]
  dsimp only [State.setOwner_gate]
  split
  · rw [State.cutSearch_gate]
    rfl
  · rfl

/-- A STOW_ALL leaves the gate OFF, so that the stops of the plant do not matter to it. -/
theorem State.GateExact.stowAllTakes {s : State} (h : s.GateExact) : s.stowAllTakes.GateExact := by
  have hr : (s.setRequest false).gate.request = false := s.setRequest_request false
  have ho : (s.setRequest false).gate.state = .off := (h.setRequest false).trans (State.gateVerdict_eq_off_iff _ |>.mpr hr)
  exact State.gateExact_of_off (by rw [State.stowAllTakes_gate, hr]) (by rw [State.stowAllTakes_gate, ho])

theorem answerStowAll_gateExact {s : State} (h : s.GateExact) : (answerStowAll s).st.GateExact := by
  unfold answerStowAll
  split
  · exact h
  · exact h.stowAllTakes

/-! ## Requests that read -/

theorem answerSiteRead_st (n : Byte) (s : State) : (answerSiteRead n s).st = s := by
  unfold answerSiteRead
  repeat' split
  all_goals rfl

theorem answerMapRead_st (layer first count : Byte) (s : State) : (answerMapRead layer first count s).st = s := by
  unfold answerMapRead
  repeat' split
  all_goals rfl

theorem answerAxisRead_st (axis : Byte) (s : State) : (answerAxisRead axis s).st = s := by
  unfold answerAxisRead
  split <;> rfl

theorem answerTimerRead_st (timer : Byte) (s : State) : (answerTimerRead timer s).st = s := by
  unfold answerTimerRead
  split <;> rfl

/-! ## Every request -/

/-- The answer of the block that owns a request leaves an exact gate exact. -/
theorem answerOf_gateExact {i : Instr} {s : State} {a : Answer} (h : s.GateExact) (ha : answerOf i s = some a) : a.st.GateExact := by
  cases i with
  | ident | restart | solutionRead | violationRead | mastRead | senseRead | tripRead | searchRead | txRead | seqRead =>
    cases ha
    exact h
  | siteRead => cases ha; rw [answerSiteRead_st]; exact h
  | mapRead => cases ha; rw [answerMapRead_st]; exact h
  | axisRead => cases ha; rw [answerAxisRead_st]; exact h
  | timerRead => cases ha; rw [answerTimerRead_st]; exact h
  | save => cases ha; exact answerSave_gateExact h
  | siteStore => cases ha; exact answerSiteStore_gateExact h ..
  | siteErase => cases ha; exact answerSiteErase_gateExact h ..
  | fix => cases ha; exact answerFix_gateExact h ..
  | solve => cases ha; exact answerSolve_gateExact h ..
  | aim => cases ha; exact answerAim_gateExact h ..
  | mapWrite => cases ha; exact answerMapWrite_gateExact h ..
  | ceilingSet => cases ha; exact answerCeilingSet_gateExact h ..
  | stowAzimuth => cases ha; exact answerStowAzimuth_gateExact h ..
  | bodyLock | violationAck => cases ha; exact h.carry rfl rfl
  | axisTarget => cases ha; exact answerAxisTarget_gateExact h ..
  | axisMoment => cases ha; exact answerAxisMoment_gateExact h ..
  | sync => cases ha; exact answerSync_gateExact h
  | axisStop => cases ha; exact answerAxisStop_gateExact h ..
  | jog => cases ha; exact answerJog_gateExact h ..
  | home => cases ha; exact answerHome_gateExact h ..
  | stow => cases ha; exact answerStow_gateExact h
  | slewSet => cases ha; exact answerSlewSet_gateExact h ..
  | indexSet => cases ha; exact answerIndexSet_gateExact h ..
  | mastTo => cases ha; exact answerMastTo_gateExact h ..
  | mastLower => cases ha; exact answerMastLower_gateExact h
  | mastStop => cases ha; exact answerMastStop_gateExact h
  | mastParam => cases ha; exact answerMastParam_gateExact h ..
  | calSet => cases ha; exact answerCalSet_gateExact h ..
  | limitSet => cases ha; exact answerLimitSet_gateExact h ..
  | windSet => cases ha; exact answerWindSet_gateExact h ..
  | tripConfig => cases ha; exact answerTripConfig_gateExact h ..
  | tripClear => cases ha; exact answerTripClear_gateExact h ..
  | search => cases ha; exact answerSearch_gateExact h ..
  | searchAbort => cases ha; exact answerSearchAbort_gateExact h
  | searchParam => cases ha; exact answerSearchParam_gateExact h ..
  | track => cases ha; exact answerTrack_gateExact h ..
  | txRequest => cases ha; exact answerTxRequest_gateExact h ..
  | deploy => cases ha; exact answerDeploy_gateExact h ..
  | stowAll => cases ha; exact answerStowAll_gateExact h
  | halt => cases ha; simp [answerHalt]
  | noticeMask => cases ha; exact answerNoticeMask_gateExact h ..
  | hush | unhush => cases ha; exact h.carry rfl rfl
  | pendingClear => cases ha; exact answerPendingClear_gateExact h ..
  | timerSet => cases ha; exact answerTimerSet_gateExact h ..
  | _ => cases ha

end Sys2Proof.Machine
end

section
/-! PROOFS. Every command and every step leaves the gate exact, which is the transmit permit's safety (R167): the link carries out the
answers and the effects after them, and an event settles the plant or touches nothing that the gate reads. -/

namespace Sys2Proof.Machine

open Sys2Proof

/-! ## The link (R196, R198) -/

/-- The gate does not read the link. -/
theorem State.GateExact.withLink {s : State} (h : s.GateExact) (l : Link) : ({ s with link := l } : State).GateExact := h.carry rfl rfl

/-- The effects after a reply settle the plant, or do not come about (R196). -/
theorem State.GateExact.runAfter {s : State} (h : s.GateExact) (after : After) : (s.runAfter after).GateExact := by
  cases after with
  | nothing => exact h
  | mastTo | mastLower =>
    unfold State.runAfter
    dsimp only
    split
    · simp
    · exact h
  | atRest | deploy | stowAll =>
    unfold State.runAfter
    simp

theorem State.GateExact.offerReply {s : State} (h : s.GateExact) (r : Reply) (after : After) : (s.offerReply r after).GateExact := by
  unfold State.offerReply
  split
  · exact (h.withLink _).kick.runAfter after
  · exact h.carry rfl rfl

theorem Answer.deliver_gateExact {a : Answer} (h : a.st.GateExact) (kind tag : Byte) : (a.deliver kind tag).GateExact := by
  unfold Answer.deliver
  dsimp only
  split
  · exact (h.withLink _).offerReply ..
  · exact h.offerReply ..

theorem State.GateExact.serve {s : State} (h : s.GateExact) (f : Frame) : (s.serve f).GateExact := by
  have hformat : (s.answerFormat f.kind f.tag).GateExact := Answer.deliver_gateExact (a := refuse .format s) h ..
  unfold State.serve
  split
  · exact hformat
  · split
    · exact hformat
    next ha => exact Answer.deliver_gateExact (answerOf_gateExact h ha) ..

theorem State.GateExact.pump {s : State} (h : s.GateExact) (fuel : Nat) : (s.pump fuel).GateExact := by
  induction fuel generalizing s with
  | zero => exact h
  | succ fuel ih =>
    unfold State.pump
    split
    · split
      · exact h
      · exact ih ((h.withLink _).serve _)
    · exact h

theorem State.GateExact.takeFrames {s : State} (h : s.GateExact) : s.takeFrames.GateExact := h.pump _

theorem State.GateExact.joinQueue {s : State} (h : s.GateExact) (f : Frame) : (s.joinQueue f).GateExact := by
  unfold State.joinQueue
  split
  · exact h.carry rfl rfl
  · exact h

theorem State.GateExact.frameArrives {s : State} (h : s.GateExact) (f : Frame) : (s.frameArrives f).GateExact :=
  (h.joinQueue f).takeFrames

/-- A request leaves the gate exact where its answer does. -/
theorem State.GateExact.request {s : State} (h : s.GateExact) (i : Instr) {a : State → Answer} (ha : (a s).st.GateExact) :
    (s.request i a).GateExact := by
  unfold State.request
  split
  · exact h
  · split
    · exact (Answer.deliver_gateExact ha ..).arbitrate
    · exact (h.joinQueue _).takeFrames.arbitrate

theorem State.GateExact.byteArrives {s : State} (h : s.GateExact) (b : Byte) : (s.byteArrives b).GateExact := by
  unfold State.byteArrives
  dsimp only
  split
  · split
    · exact (h.withLink _).frameArrives _
    · exact h.carry rfl rfl
  · exact h.carry rfl rfl

theorem State.GateExact.admitWaiting {s : State} (h : s.GateExact) : s.admitWaiting.GateExact := by
  unfold State.admitWaiting
  split
  · exact h
  · split
    · exact (h.withLink _).offerReply ..
    · exact h

/-- A reset ends with a settling (R140). -/
theorem State.judgedAfresh_gateExact (s : State) : s.judgedAfresh.GateExact := by
  unfold State.judgedAfresh
  simp

theorem State.coldReset_gateExact (s : State) (k : ResetKind) : (s.coldReset k).GateExact := by
  unfold State.coldReset
  exact State.judgedAfresh_gateExact _

theorem State.GateExact.frameLeaves {s : State} (h : s.GateExact) : s.frameLeaves.GateExact := by
  unfold State.frameLeaves
  split
  · exact h
  · split
    · exact h.carry rfl rfl
    · dsimp only
      split
      · exact State.judgedAfresh_gateExact _
      · exact (h.withLink _).kick.admitWaiting.takeFrames

/-! ## The events -/

/-- An event that settles the plant where it meets its condition, and changes nothing where it does not, leaves the gate exact. -/
theorem State.GateExact.settled_if {s : State} (h : s.GateExact) (c : Prop) [Decidable c] (u : State) :
    (if c then u.reconcile else s).GateExact := by
  split
  · exact u.reconcile_gateExact
  · exact h

theorem State.GateExact.axisSettleEnds {s : State} (h : s.GateExact) (a : Axis) : (s.axisSettleEnds a).GateExact := by
  unfold State.axisSettleEnds
  exact h.settled_if _ _

theorem State.GateExact.axisStalls {s : State} (h : s.GateExact) (a : Axis) : (s.axisStalls a).GateExact := by
  unfold State.axisStalls
  exact h.settled_if _ _

theorem State.GateExact.deadmanExpires {s : State} (h : s.GateExact) (a : Axis) : (s.deadmanExpires a).GateExact := by
  unfold State.deadmanExpires
  exact h.settled_if _ _

theorem State.GateExact.mastSettleEnds {s : State} (h : s.GateExact) : s.mastSettleEnds.GateExact := by
  unfold State.mastSettleEnds
  exact h.settled_if _ _

theorem State.GateExact.mastStalls {s : State} (h : s.GateExact) : s.mastStalls.GateExact := by
  unfold State.mastStalls
  exact h.settled_if _ _

theorem State.encoderMoves_gateExact (s : State) (a : Axis) (delta : Half) : (s.encoderMoves a delta).GateExact := by
  unfold State.encoderMoves
  exact State.reconcile_gateExact _

theorem State.mastCounts_gateExact (s : State) (up : Bool) : (s.mastCounts up).GateExact := by
  unfold State.mastCounts
  exact State.reconcile_gateExact _

theorem State.gateEnds_gateExact (s : State) : s.gateEnds.GateExact := by
  unfold State.gateEnds
  exact State.reconcile_gateExact _

theorem State.converts_gateExact (s : State) (c : Channel) (n : Nat) : (s.converts c n).GateExact := by
  unfold State.converts
  cases c <;> simp

/-- A raw change of a line leaves its debounced level, and TILT_STOW's is all that the gate reads (R110, R167). -/
theorem State.GateExact.rawChanges {s : State} (h : s.GateExact) (n : Line) (level : Bool) : (s.rawChanges n level).GateExact := by
  unfold State.rawChanges
  dsimp only
  split
  · exact h
  · refine h.carry rfl ?_
    have hl := s.lines.tiltStow_setLine_level (n := n) (x := if (s.lines.line n).level = level then
      { s.lines.line n with raw := level, timer := none, captured := none }
      else { s.lines.line n with raw := level, timer := some debounceMs, captured := s.captureAt n }) (by split <;> rfl)
    unfold State.reasons
    dsimp only
    rw [hl]
    rfl

theorem State.GateExact.debounced {s : State} (h : s.GateExact) (n : Line) : (s.debounced n).GateExact := by
  unfold State.debounced
  dsimp only
  split
  · exact h
  · simp

theorem State.GateExact.pulse {s : State} (h : s.GateExact) (since : Nat) : (s.pulse since).GateExact := by
  unfold State.pulse
  split
  · exact h
  · dsimp only
    split
    · simp
    · exact h.carry rfl rfl

theorem State.GateExact.releaseEnds {s : State} (h : s.GateExact) (n : Source) : (s.releaseEnds n).GateExact := by
  unfold State.releaseEnds
  exact h.settled_if _ _

theorem State.GateExact.searchDwellEnds {s : State} (h : s.GateExact) : s.searchDwellEnds.GateExact := by
  unfold State.searchDwellEnds State.dwellEnds
  repeat' split
  · exact h.carry rfl rfl
  · exact h
  · exact h

theorem State.GateExact.trackTimerExpires {s : State} (h : s.GateExact) : s.trackTimerExpires.GateExact := by
  unfold State.trackTimerExpires
  split
  · exact h
  · simp

theorem State.GateExact.reportTimerExpires {s : State} (h : s.GateExact) : s.reportTimerExpires.GateExact := by
  unfold State.reportTimerExpires
  split
  · exact h
  · exact h.carry rfl rfl

theorem State.GateExact.txWaitEnds {s : State} (h : s.GateExact) : s.txWaitEnds.GateExact := by
  unfold State.txWaitEnds
  exact h.settled_if _ _

theorem State.GateExact.saveEnds {s : State} (h : s.GateExact) : s.saveEnds.GateExact := by
  unfold State.saveEnds
  split
  · exact h
  · exact h.carry rfl rfl

theorem State.GateExact.gapPasses {s : State} (h : s.GateExact) : s.gapPasses.GateExact := by
  unfold State.gapPasses
  split
  · exact h
  · exact h.carry rfl rfl

/-! ## Every command, and every step -/

/-- A request of the console is carried out by its owning block's answer. -/
theorem exec_of_answerOf {i : Instr} {s : State} {a : Answer} (ha : answerOf i s = some a) :
    ∃ f : State → Answer, exec i s = .next (s.request i f) ∧ f s = a := by
  cases i <;> cases ha <;> exact ⟨_, rfl, rfl⟩

/-- An event leaves the gate exact, before the transmitter decides. -/
theorem exec_of_no_answer {i : Instr} {s : State} (h : s.GateExact) (ha : answerOf i s = none) :
    ∃ u : State, u.GateExact ∧ exec i s = .next u.arbitrate := by
  cases i with
  | powerOn => exact ⟨_, s.coldReset_gateExact .powerOn, rfl⟩
  | resetLine => exact ⟨_, s.coldReset_gateExact .resetLine, rfl⟩
  | byteReceived b => exact ⟨_, h.byteArrives b, rfl⟩
  | receiveGap => exact ⟨_, h.gapPasses, rfl⟩
  | lineFault => exact ⟨s.dropPartial, h.carry rfl rfl, rfl⟩
  | unknownKindFrame kind tag payload => exact ⟨_, h.frameArrives ⟨kind, tag, payload⟩, rfl⟩
  | frameSent => exact ⟨_, h.frameLeaves, rfl⟩
  | saveComplete => exact ⟨_, h.saveEnds, rfl⟩
  | jogDeadmanExpiry a => exact ⟨_, h.deadmanExpires a, rfl⟩
  | axisEncoderMove a d => exact ⟨_, s.encoderMoves_gateExact a d, rfl⟩
  | axisSettleDone a => exact ⟨_, h.axisSettleEnds a, rfl⟩
  | axisStallTimeout a => exact ⟨_, h.axisStalls a, rfl⟩
  | mastEncoderCount up => exact ⟨_, s.mastCounts_gateExact up, rfl⟩
  | mastSettleDone => exact ⟨_, h.mastSettleEnds, rfl⟩
  | mastStallTimeout => exact ⟨_, h.mastStalls, rfl⟩
  | conversion c n => exact ⟨_, s.converts_gateExact c n.toNat, rfl⟩
  | lineRawChange n level => exact ⟨_, h.rawChanges n level, rfl⟩
  | debounceExpiry n => exact ⟨_, h.debounced n, rfl⟩
  | anemometerPulse since => exact ⟨_, h.pulse since, rfl⟩
  | gateEnd => exact ⟨_, s.gateEnds_gateExact, rfl⟩
  | releaseTimerExpiry n => exact ⟨_, h.releaseEnds n, rfl⟩
  | searchDwellDone => exact ⟨_, h.searchDwellEnds, rfl⟩
  | trackExpiry => exact ⟨_, h.trackTimerExpires, rfl⟩
  | reportExpiry => exact ⟨_, h.reportTimerExpires, rfl⟩
  | deployRaiseIssue => exact ⟨_, s.issueRaise.reconcile_gateExact, rfl⟩
  | deploySearchIssue => exact ⟨_, s.issueSearch.reconcile_gateExact, rfl⟩
  | txWaitTimeout => exact ⟨_, h.txWaitEnds, rfl⟩
  | _ => cases ha

/-- Every command leaves an exact gate exact. -/
theorem exec_keeps_gateExact {i : Instr} {s t : State} (h : s.GateExact) (ht : exec i s = .next t) : t.GateExact := by
  cases ha : answerOf i s with
  | some a =>
    obtain ⟨f, hx, rfl⟩ := exec_of_answerOf ha
    cases hx.symm.trans ht
    exact h.request i (answerOf_gateExact h ha)
  | none =>
    obtain ⟨u, hu, hx⟩ := exec_of_no_answer h ha
    cases hx.symm.trans ht
    exact hu.arbitrate

/-- Every step leaves an exact gate exact. -/
theorem step_keeps_gateExact {s t : State} (h : s.GateExact) (ht : step s = .next t) : t.GateExact := by
  unfold step at ht
  split at ht
  next cs _ => exact exec_keeps_gateExact (h.carry (t := { s with pending := cs }) rfl rfl) ht
  next =>
    unfold idleStep at ht
    split at ht
    next => exact exec_keeps_gateExact h ht
    next =>
      cases ht
      exact (h.carry (t := s.tick) rfl s.tick_reasons).arbitrate

/-- Settles O5: every step leaves the gate exact, and the verdict of an exact gate is ON only where no reason stands. -/
theorem permitNeedsEveryCondition : Obligations.PermitNeedsEveryCondition := by
  unfold Obligations.PermitNeedsEveryCondition
  intro s t hs ht hpermit
  have hexact : t.GateExact := step_keeps_gateExact hs.gate ht
  have hon : t.gateVerdict = .on := hexact.symm.trans (of_decide_eq_true hpermit)
  obtain ⟨hrequest, hempty⟩ := t.gateVerdict_eq_on_iff.mp hon
  exact ⟨hrequest, State.conditions_of_no_reason hempty⟩

end Sys2Proof.Machine
end
